-- ==== Sys2Proof/Word.lean ====
section
/-! DEFINITION. The two register widths of the block: a bus word and a value register. -/

namespace Sys2Proof

/-- One 32-bit word of the register window, and one command word (R22, R80). -/
abbrev Word := BitVec 32

/-- A value register. The spec makes it WMAX bits wide with WMAX ≤ 64 (R7); the model holds 64 bits, of which
those at positions ≥ WMAX are hard-wired 0 (R30). DESIGN CHOICE, safe: log 11. -/
abbrev Value := BitVec 64

end Sys2Proof
end

