-- ==== Sys2Proof/Syntax.lean ====
section
/-! DEFINITION. The command set, one constructor per row of spec/opcode_table.json, and the HOST's bus operations. -/

namespace Sys2Proof

/-- The eight commands (R85). Operands are numbers (R11); `WellFormed` says which ones fit their fields. -/
inductive Instr where
  /-- R180. -/
  | nop
  /-- R130. -/
  | configure
  /-- R155. -/
  | start
  /-- R156; the operand is VALUE, a 24-bit field (R83). -/
  | byte (value : Nat)
  /-- R157. -/
  | final
  /-- R159. -/
  | check
  /-- R122; the operand is NBITS, a 7-bit field (R84). -/
  | reverse (nbits : Nat)
  /-- R181. -/
  | clearErr
  deriving DecidableEq, Repr

/-- How many bytes one bus access moves. Only `word` is performed (R62). -/
inductive AccessSize where
  | byte
  | halfword
  | word
  | doubleword
  deriving DecidableEq, Repr

/-- One operation of the HOST (R89). Addresses are bus addresses (R61). -/
inductive HostOp where
  /-- `rd`: one read. -/
  | read (addr : Nat) (size : AccessSize)
  /-- `wr`: one write. `data` is what a word access carries; an access of another size is not performed. -/
  | write (addr : Nat) (size : AccessSize) (data : Word)
  /-- `poll`: repeats a word read until `word AND mask = value`. -/
  | poll (addr : Nat) (mask value : Word)
  deriving DecidableEq, Repr

end Sys2Proof
end

