-- ==== Sys2Proof/WellFormed.lean ====
section
/-! DEFINITION. Which commands can be encoded: the operand checks the assembler of R89 makes. -/

namespace Sys2Proof

/-- R89: "An assembler refuses `crc.byte V` with V ≥ 2^24 and `crc.reverse N` with N ≥ 128: those operands do not
fit their fields." Every other command has no operand. -/
def Instr.wellFormed : Instr → Bool
  | .nop => true
  | .configure => true
  | .start => true
  | .byte value => decide (value < 2 ^ 24)
  | .final => true
  | .check => true
  | .reverse nbits => decide (nbits < 2 ^ 7)
  | .clearErr => true

end Sys2Proof
end

