-- ==== Sys2Proof/Decode.lean ====
section
/-! DEFINITION. The decoder of R88, total on 32-bit words and refusing by name, and the encoder of R81 to R85. -/

namespace Sys2Proof

/-- Why a word is illegal: the three cases of R86. -/
inductive Illegal where
  /-- R86 (a): OP ≥ 0x08, the reserved opcodes. -/
  | reservedOpcode
  /-- R86 (b): a form-Z opcode with ARG ≠ 0. -/
  | argNotZero
  /-- R86 (c): OP = 0x06 with a bit of w[23:7] set. -/
  | reverseBitsNotZero
  deriving DecidableEq, Repr

/-- What the decoder answers (R88): a command, or `Illegal`. -/
inductive Decoded where
  | command (i : Instr)
  | illegal (why : Illegal)
  deriving DecidableEq, Repr

/-- OP = w[31:24] (R81). -/
def opField (w : Word) : BitVec 8 := w.extractLsb' 24 8

/-- ARG = w[23:0] (R81). -/
def argField (w : Word) : BitVec 24 := w.extractLsb' 0 24

/-- NBITS = w[6:0] (R84), from ARG. -/
def nbitsField (arg : BitVec 24) : BitVec 7 := arg.extractLsb' 0 7

/-- w[23:7], which form R requires to be 0 (R84), from ARG. -/
def reverseZeroField (arg : BitVec 24) : BitVec 17 := arg.extractLsb' 7 17

/-- Form Z (R82): ARG must be 0. -/
def decodeZ (i : Instr) (arg : BitVec 24) : Decoded :=
  if arg = 0 then .command i else .illegal .argNotZero

/-- Form B (R83): every ARG value decodes. -/
def decodeB (arg : BitVec 24) : Decoded := .command (.byte arg.toNat)

/-- Form R (R84): bits 23:7 must be 0. -/
def decodeR (arg : BitVec 24) : Decoded :=
  if reverseZeroField arg = 0 then .command (.reverse (nbitsField arg).toNat) else .illegal .reverseBitsNotZero

/-- The opcode map of R85, on the two fields of the word. -/
def decodeFields (op : BitVec 8) (arg : BitVec 24) : Decoded :=
  match op.toNat with
  | 0 => decodeZ .nop arg
  | 1 => decodeZ .configure arg
  | 2 => decodeZ .start arg
  | 3 => decodeB arg
  | 4 => decodeZ .final arg
  | 5 => decodeZ .check arg
  | 6 => decodeR arg
  | 7 => decodeZ .clearErr arg
  | _ => .illegal .reservedOpcode

/-- The decoder of R88. It reads nothing but the word. -/
def decode (w : Word) : Decoded := decodeFields (opField w) (argField w)

/-- OP of a command (R85). -/
def Instr.opcode : Instr → BitVec 8
  | .nop => 0x00
  | .configure => 0x01
  | .start => 0x02
  | .byte _ => 0x03
  | .final => 0x04
  | .check => 0x05
  | .reverse _ => 0x06
  | .clearErr => 0x07

/-- ARG of a command: 0 in form Z (R82), VALUE in form B (R83), NBITS in form R (R84). -/
def Instr.argument : Instr → BitVec 24
  | .nop => 0
  | .configure => 0
  | .start => 0
  | .byte value => BitVec.ofNat 24 value
  | .final => 0
  | .check => 0
  | .reverse nbits => BitVec.ofNat 24 nbits
  | .clearErr => 0

/-- A command word from its two fields (R81). -/
def joinFields (op : BitVec 8) (arg : BitVec 24) : Word := op ++ arg

/-- The encoder: the one word of a command (R81 to R85). -/
def encode (i : Instr) : Word := joinFields i.opcode i.argument

/-- The decoder as the host's opcode table numbers the word: one 32-bit word, bit 0 its least significant bit; the
bits at and above `nbits` are 0. -/
def decodeTableWord (nbits w : Nat) : Option Instr :=
  if nbits ≤ 32 then
    match decode (BitVec.ofNat 32 (w % 2 ^ nbits)) with
    | .command i => some i
    | .illegal _ => none
  else none

end Sys2Proof
end

