-- ==== Sys2Proof/Machine/Crc.lean ====
section
/-! DEFINITION. The functions of the CRC engine, on unbounded naturals as R11 and R12 state them: bit reversal
(R120), validation order apart, normalisation (R133), the two table generators (R134 to R136), the two byte steps
(R150 to R152), finalisation (R153), Calculate (R154), the check message (R158), and the bit-by-bit reference
algorithm of R164. -/

namespace Sys2Proof.Machine

/-- The parameters of a CRC variant as numbers (R10, R11). -/
structure Variant where
  width : Nat
  poly : Nat
  init : Nat
  reflectIn : Bool
  reflectOut : Bool
  xorout : Nat
  deriving DecidableEq, Repr

/-- The legal values of R10 for a datapath of `wmax` bits. -/
abbrev Variant.Legal (wmax : Nat) (v : Variant) : Prop :=
  8 ≤ v.width ∧ v.width ≤ wmax ∧ v.poly < 2 ^ v.width ∧ v.init < 2 ^ v.width ∧ v.xorout < 2 ^ v.width

/-- `mask(w) = 2^w - 1` (R12). -/
def mask (w : Nat) : Nat := 2 ^ w - 1

/-- One pass of the loop of R120: bit i of `value` goes to position nBits - 1 - i. -/
def placeReversedBit (value nBits r i : Nat) : Nat :=
  if value.testBit i then r ||| (1 <<< (nBits - 1 - i)) else r

/-- The loop of R120, for i in 0..nBits-1. -/
def reversedBits (value nBits : Nat) : Nat :=
  (List.range nBits).foldl (placeReversedBit value nBits) 0

/-- `reverseBits(value, nBits)` of R120: it fails with InvalidInput (`none`) exactly when value ≥ 2^nBits. -/
def reverseBits (value nBits : Nat) : Option Nat :=
  if value ≥ 2 ^ nBits then none else some (reversedBits value nBits)

/-- Normalisation (R133): a supplied variant in its stored form. xorout is never reversed. -/
def normalise (v : Variant) : Variant :=
  if v.reflectIn then
    { v with poly := reversedBits v.poly v.width, init := reversedBits v.init v.width }
  else v

/-- One bit step of the non-reflected loops of R134 and R164: the test is made on r before the shift. -/
def bitStepN (w p r : Nat) : Nat :=
  let c := (r <<< 1) % 2 ^ w
  if r.testBit (w - 1) then c ^^^ p else c

/-- One bit step of the reflected loops of R135 and R164. -/
def bitStepR (p r : Nat) : Nat :=
  let c := r >>> 1
  if r.testBit 0 then c ^^^ p else c

/-- The non-reflected table entry (R134), from the stored polynomial. -/
def genN (w p b : Nat) : Nat := (bitStepN w p)^[8] (b <<< (w - 8))

/-- The reflected table entry (R135), from the stored polynomial. -/
def genR (p b : Nat) : Nat := (bitStepR p)^[8] b

/-- `genTable(W, P', RI)[b]` (R136). -/
def genTable (w p : Nat) (reflectIn : Bool) (b : Nat) : Nat :=
  if reflectIn then genR p b else genN w p b

/-- The non-reflected byte step (R150). -/
def stepN (w : Nat) (table : Nat → Nat) (crc b : Nat) : Nat :=
  let pos := (crc >>> (w - 8)) ^^^ b
  ((crc <<< 8) % 2 ^ w) ^^^ table pos

/-- The reflected byte step (R151). -/
def stepR (table : Nat → Nat) (crc b : Nat) : Nat :=
  let pos := (crc ^^^ b) &&& 0xFF
  (crc >>> 8) ^^^ table pos

/-- The step of the active configuration (R152). -/
def byteStep (v : Variant) (table : Nat → Nat) (crc b : Nat) : Nat :=
  if v.reflectIn then stepR table crc b else stepN v.width table crc b

/-- Finalisation (R153). -/
def finalize (v : Variant) (crc : Nat) : Nat :=
  (if v.reflectOut ^^ v.reflectIn then reversedBits crc v.width else crc) ^^^ v.xorout

/-- `Calculate(m)` (R154) of a stored variant and a table. -/
def calculate (v : Variant) (table : Nat → Nat) (m : List Nat) : Nat :=
  finalize v (m.foldl (byteStep v table) v.init)

/-- The digest of a message under a variant as a caller supplies it: normalise, generate the table, Calculate. -/
def digest (v : Variant) (m : List Nat) : Nat :=
  let stored := normalise v
  calculate stored (genTable stored.width stored.poly stored.reflectIn) m

/-- CHECK_MESSAGE (R158). -/
def checkMessage : List Nat := [0x31, 0x32, 0x33, 0x34, 0x35, 0x36, 0x37, 0x38, 0x39]

/-- One byte of the bit-by-bit division of R164, reflected. -/
def bitwiseByteR (p crc b : Nat) : Nat := (bitStepR p)^[8] (crc ^^^ b)

/-- One byte of the bit-by-bit division of R164, non-reflected. -/
def bitwiseByteN (w p crc b : Nat) : Nat := (bitStepN w p)^[8] (crc ^^^ (b <<< (w - 8)))

/-- The digest by bit-by-bit division, with no table (R164); P, I and X as supplied. -/
def bitwise (v : Variant) (m : List Nat) : Nat :=
  let crc :=
    if v.reflectIn then m.foldl (bitwiseByteR (reversedBits v.poly v.width)) (reversedBits v.init v.width)
    else m.foldl (bitwiseByteN v.width v.poly) v.init
  (if v.reflectOut ^^ v.reflectIn then reversedBits crc v.width else crc) ^^^ v.xorout

end Sys2Proof.Machine
end

