-- ==== Sys2Proof/Config.lean ====
section
/-! DEFINITION. What an implementation fixes (the parameters of R7 and R8), the two agents of R6, and the one
free value of the model: how many HOST steps the ENGINE lets pass when both can move (R100, R107). -/

namespace Sys2Proof

/-- The two agents of R6. -/
inductive Agent where
  /-- The bus master. -/
  | host
  /-- The CRC-N generator. -/
  | engine
  deriving DecidableEq, Repr, Inhabited

/-- The implementation parameters that a rule of the machine depends on (R7, R8). -/
structure Params where
  /-- WMAX, the largest CRC width the datapath holds. -/
  wmax : Nat
  /-- BASE, the bus address of register offset 0x000. -/
  base : Nat
  deriving DecidableEq, Repr

/-- The default of R7 for WMAX. BASE has no default in the spec; 0 is the model's (DESIGN CHOICE, log 1). -/
def Params.default : Params := { wmax := 64, base := 0 }

/-- The ranges R7 and R8 give the parameters. -/
abbrev Params.Legal (p : Params) : Prop := 8 ≤ p.wmax ∧ p.wmax ≤ 64 ∧ p.base % 4096 = 0

/-- A free value: where the state's own list of turns does not settle which agent moves, the number of HOST steps
taken before the n-th ENGINE step. It is any natural number, since R100 lets any enabled step be taken next and R240
leaves the latencies open, and it is finite, which is the weak fairness of R107. Log 4. -/
opaque Config.freeHostTurns : Nat → Nat

end Sys2Proof
end

