-- ==== Sys2Proof/Machine/State.lean ====
section
/-! DEFINITION. The state of the machine: everything R20 gives the block, and the model's own fields for the HOST and
for the interleaving. Its value after reset is R49's. -/

namespace Sys2Proof.Machine

/-- The recorded error causes of R201. Codes 0xC to 0xF are never produced (U13). -/
inductive ErrorCause where
  | noError
  | invalidWidth
  | invalidPoly
  | invalidInit
  | invalidXorout
  | invalidReverseValue
  | invalidMessage
  | invalidNbits
  | notConfigured
  | notOpen
  | sequence
  | illegalCommand
  deriving DecidableEq, Repr

/-- The STATUS fields of R32. -/
structure Status where
  /-- R33. -/
  busy : Bool
  /-- R34. -/
  configured : Bool
  /-- OPEN, R35. -/
  isOpen : Bool
  /-- R36. -/
  resultValid : Bool
  /-- R37. -/
  error : Bool
  /-- ERR_CAUSE, R37. -/
  errCause : ErrorCause
  deriving DecidableEq, Repr

/-- The parameters of a CRC variant as registers (R10): the staging configuration (R24 to R28), its snapshot (R47)
and the active configuration (R44) each hold one. -/
structure CrcConfig where
  width : BitVec 7
  reflectIn : Bool
  reflectOut : Bool
  poly : Value
  init : Value
  xorout : Value
  deriving DecidableEq, Repr

/-- The command latch of R47. -/
structure Latch where
  /-- lat_op. -/
  op : BitVec 8
  /-- lat_arg. -/
  arg : BitVec 24
  /-- lat_cfg, the snapshot of the staging configuration. -/
  cfg : CrcConfig
  /-- lat_operand, the snapshot of OPERAND. -/
  operand : Value
  deriving DecidableEq, Repr

/-- The lookup table of R45: 256 entries indexed by a byte value. -/
abbrev Table := Vector Value 256

/-- The answer to the last HOST access. The model's own record of the bus, not state of the block (log 3). -/
inductive Reply where
  /-- No access has been made since reset. -/
  | none
  /-- A read was performed and returned this word. -/
  | data (w : Word)
  /-- A write was performed. -/
  | written
  /-- The access got the bus error response of R62 and R75. -/
  | busError
  deriving DecidableEq, Repr

/-- The machine's state. -/
structure State where
  /-- WMAX and BASE (R7, R8), fixed for the machine: no step changes them (log 1). -/
  params : Params
  /-- The staging configuration (R24 to R28). -/
  cfg : CrcConfig
  /-- OPERAND (R29). -/
  operand : Value
  /-- STATUS (R32 to R37). -/
  status : Status
  /-- RESULT (R38). -/
  result : Value
  /-- The active configuration, in its stored form (R44). -/
  act : CrcConfig
  /-- TABLE (R45). -/
  table : Table
  /-- The working register crc (R46). -/
  crc : Value
  /-- The command latch (R47). -/
  latch : Latch
  /-- The model's own: the HOST's operations still to perform, first one first (R68, R105; log 3). -/
  host : List HostOp
  /-- The model's own: the answer to the HOST's last access (log 3). -/
  reply : Reply
  /-- The model's own: which agent moves at the next choices between two enabled agents (R100; log 4). -/
  turns : List Agent
  /-- The model's own: how many ENGINE steps past the end of `turns` have been chosen, the argument of the free value
  Config.freeHostTurns (log 4). -/
  choices : Nat
  /-- The model's own: how many HOST steps past the end of `turns` have been chosen since the last such ENGINE step
  (R107; log 4). -/
  waited : Nat
  deriving DecidableEq, Repr

/-- Why the machine stops. -/
inductive Fault where
  /-- Raised by an ENGINE step when BUSY = 1 and the latch holds no command word. R103 gives a completion only to a
  latched command and no run reaches such a state. Safe: log 7. -/
  | noLatchedCommand
  deriving DecidableEq, Repr

/-- What the model gives no meaning to. -/
inductive Refusal where
  /-- Raised by exec for a command whose meaning is not written yet; no arm raises it any more. Safe. -/
  | notModelled (mnemonic : String)
  /-- Raised by a HOST access at a bus address outside the window: "Decoding of addresses outside the window belongs
  to the platform and is not part of this block" (R61). Safe: log 8. -/
  | outsideWindow (addr : Nat)
  deriving DecidableEq, Repr

/-- What a step answers. -/
abbrev StepOutcome := Host.Outcome State Fault Refusal

/-- STATUS after reset: every field 0 (R49). -/
def Status.reset : Status :=
  { busy := false, configured := false, isOpen := false, resultValid := false, error := false, errCause := .noError }

/-- A configuration of zeros: the staging registers after reset (R49), and the model's choice for the elements R49
leaves unspecified (DESIGN CHOICE, log 2). -/
def CrcConfig.zero : CrcConfig :=
  { width := 0, reflectIn := false, reflectOut := false, poly := 0, init := 0, xorout := 0 }

/-- The latch after reset: unspecified in R49, zeros here (DESIGN CHOICE, log 2). -/
def Latch.zero : Latch := { op := 0, arg := 0, cfg := CrcConfig.zero, operand := 0 }

/-- The state right after reset of a block with these parameters (R49), with an idle HOST. -/
def State.afterReset (p : Params) : State :=
  { params := p
    cfg := CrcConfig.zero
    operand := 0
    status := Status.reset
    result := 0
    act := CrcConfig.zero
    table := Vector.replicate 256 0
    crc := 0
    latch := Latch.zero
    host := []
    reply := .none
    turns := []
    choices := 0
    waited := 0 }

/-- The machine right after reset, with the default parameters (R49, R232). -/
def State.reset : State := State.afterReset Params.default

end Sys2Proof.Machine
end

