-- ==== Sys2Proof/Machine/Flags.lean ====
section
/-! DEFINITION. The STATUS register: the codes of R201 and the word a read returns (R32). -/

namespace Sys2Proof.Machine

/-- ERR_CAUSE codes (R201). -/
def ErrorCause.code : ErrorCause → BitVec 4
  | .noError => 0x0
  | .invalidWidth => 0x1
  | .invalidPoly => 0x2
  | .invalidInit => 0x3
  | .invalidXorout => 0x4
  | .invalidReverseValue => 0x5
  | .invalidMessage => 0x6
  | .invalidNbits => 0x7
  | .notConfigured => 0x8
  | .notOpen => 0x9
  | .sequence => 0xA
  | .illegalCommand => 0xB

/-- The source's InvalidInput: the causes 0x1 to 0x6 (R202). -/
def ErrorCause.isInvalidInput : ErrorCause → Bool
  | .invalidWidth | .invalidPoly | .invalidInit | .invalidXorout | .invalidReverseValue | .invalidMessage => true
  | .noError | .invalidNbits | .notConfigured | .notOpen | .sequence | .illegalCommand => false

/-- The STATUS word (R32), from bit 31 down: reserved, ERR_CAUSE, reserved, ERROR, RESULT_VALID, OPEN, CONFIGURED,
BUSY. -/
def Status.word (st : Status) : Word :=
  0#20 ++ st.errCause.code ++ 0#3 ++ BitVec.ofBool st.error ++ BitVec.ofBool st.resultValid ++
    BitVec.ofBool st.isOpen ++ BitVec.ofBool st.configured ++ BitVec.ofBool st.busy

end Sys2Proof.Machine
end

