-- ==== Sys2Proof/Machine/Operands.lean ====
section
/-! DEFINITION. The register window: its map (R22, R43), the composition of a value register from two words (R30),
what a read returns and what a write stores (R23 to R42, R65); and the operands the commands take from registers. -/

namespace Sys2Proof.Machine

/-! ## Value registers -/

/-- The two words of a value register (R30). -/
inductive Half where
  | lo
  | hi
  deriving DecidableEq, Repr

/-- A number as a value register holds it. -/
def toValue (n : Nat) : Value := BitVec.ofNat 64 n

/-- A read of V_LO or V_HI (R30): bits 31:0 or 63:32 of V, bits at positions ≥ WMAX reading 0. -/
def readHalf (wmax : Nat) (h : Half) (v : Value) : Word :=
  match h with
  | .lo => BitVec.ofNat 32 (v.toNat % 2 ^ wmax)
  | .hi => BitVec.ofNat 32 ((v.toNat % 2 ^ wmax) >>> 32)

/-- A write of word d to V_LO or V_HI (R30): the new V. When WMAX ≤ 32, V_HI is RAZ/WI. -/
def writeHalf (wmax : Nat) (h : Half) (d : Word) (v : Value) : Value :=
  match h with
  | .lo => toValue (((v.toNat >>> 32) <<< 32) ||| (d.toNat &&& mask (min 32 wmax)))
  | .hi => if wmax > 32 then toValue ((v.toNat &&& mask 32) ||| ((d.toNat &&& mask (wmax - 32)) <<< 32)) else v

/-! ## Configurations as numbers -/

/-- The numbers a configuration's registers hold. -/
def CrcConfig.numbers (c : CrcConfig) : Variant :=
  { width := c.width.toNat
    poly := c.poly.toNat
    init := c.init.toNat
    reflectIn := c.reflectIn
    reflectOut := c.reflectOut
    xorout := c.xorout.toNat }

/-- A supplied configuration in its stored form (R133, R137). -/
def CrcConfig.stored (c : CrcConfig) : CrcConfig :=
  { c with
    poly := toValue (normalise c.numbers).poly
    init := toValue (normalise c.numbers).init }

/-- The table of a stored variant (R136, R137). -/
def buildTable (v : Variant) : Table :=
  Vector.ofFn fun b => toValue (genTable v.width v.poly v.reflectIn b.val)

/-- Entry b of TABLE, indexed by an 8-bit value (R60). -/
def tableEntry (t : Table) (b : Nat) : Value := t[b % 256]'(Nat.mod_lt b (by decide))

/-- The table as the digest functions read it. -/
def tableNumbers (t : Table) (b : Nat) : Nat := (tableEntry t b).toNat

/-! ## The register map -/

/-- The registers of R22. -/
inductive Reg where
  | param
  | cfgWidth
  | cfgFlags
  | cfgPoly (h : Half)
  | cfgInit (h : Half)
  | cfgXorout (h : Half)
  | operand (h : Half)
  | cmd
  | status
  | result (h : Half)
  | actCfg
  | actPoly (h : Half)
  | actInit (h : Half)
  | actXorout (h : Half)
  | table (b : Nat) (h : Half)
  | reserved
  deriving DecidableEq, Repr

/-- The access types of R22. -/
inductive AccessType where
  | rw
  | ro
  | wo
  | razWi
  deriving DecidableEq, Repr

/-- The rows of R22's map that name one word each. -/
def registerMap : List (Nat × Reg) :=
  [(0x000, .param), (0x004, .cfgWidth), (0x008, .cfgFlags), (0x00C, .reserved),
    (0x010, .cfgPoly .lo), (0x014, .cfgPoly .hi), (0x018, .cfgInit .lo), (0x01C, .cfgInit .hi),
    (0x020, .cfgXorout .lo), (0x024, .cfgXorout .hi), (0x028, .operand .lo), (0x02C, .operand .hi),
    (0x030, .cmd), (0x034, .status), (0x038, .result .lo), (0x03C, .result .hi), (0x040, .actCfg)] ++
  [(0x044, .reserved), (0x048, .actPoly .lo), (0x04C, .actPoly .hi), (0x050, .actInit .lo), (0x054, .actInit .hi),
    (0x058, .actXorout .lo), (0x05C, .actXorout .hi)]

/-- The TABLE window (R41), 0x100 to 0x8FC, and the reserved ranges 0x060 to 0x0FC and 0x900 to 0xFFC (R43). -/
def windowReg (off : Nat) : Reg :=
  if 0x100 ≤ off ∧ off < 0x900 then
    .table ((off - 0x100) / 8) (if (off - 0x100) % 8 < 4 then .lo else .hi)
  else .reserved

/-- The register at a word-aligned offset of the window (R22). -/
def regAt (off : Nat) : Reg := (registerMap.lookup off).getD (windowReg off)

/-- The access column of R22. -/
def Reg.access : Reg → AccessType
  | .param => .ro
  | .cfgWidth => .rw
  | .cfgFlags => .rw
  | .cfgPoly _ => .rw
  | .cfgInit _ => .rw
  | .cfgXorout _ => .rw
  | .operand _ => .rw
  | .cmd => .wo
  | .status => .ro
  | .result _ => .ro
  | .actCfg => .ro
  | .actPoly _ => .ro
  | .actInit _ => .ro
  | .actXorout _ => .ro
  | .table _ _ => .ro
  | .reserved => .razWi

/-! ## Reads and writes -/

/-- The CFG_WIDTH word (R24). -/
def widthWord (c : CrcConfig) : Word := 0#25 ++ c.width

/-- The CFG_FLAGS word (R25). -/
def flagsWord (c : CrcConfig) : Word := 0#30 ++ BitVec.ofBool c.reflectOut ++ BitVec.ofBool c.reflectIn

/-- The ACT_CFG word while CONFIGURED = 1 (R39). -/
def actCfgWord (c : CrcConfig) : Word :=
  0#22 ++ BitVec.ofBool c.reflectOut ++ BitVec.ofBool c.reflectIn ++ 0#1 ++ c.width

/-- Readback gating (R42): 0 while CONFIGURED = 0. -/
def gated (s : State) (w : Word) : Word := if s.status.configured then w else 0

/-- What a HOST read of a register returns (R23 to R43). -/
def readReg (r : Reg) (s : State) : Word :=
  match r with
  | .param => BitVec.ofNat 32 s.params.wmax
  | .cfgWidth => widthWord s.cfg
  | .cfgFlags => flagsWord s.cfg
  | .cfgPoly h => readHalf s.params.wmax h s.cfg.poly
  | .cfgInit h => readHalf s.params.wmax h s.cfg.init
  | .cfgXorout h => readHalf s.params.wmax h s.cfg.xorout
  | .operand h => readHalf s.params.wmax h s.operand
  | .cmd => 0
  | .status => s.status.word
  | .result h => readHalf s.params.wmax h s.result
  | .actCfg => gated s (actCfgWord s.act)
  | .actPoly h => gated s (readHalf s.params.wmax h s.act.poly)
  | .actInit h => gated s (readHalf s.params.wmax h s.act.init)
  | .actXorout h => gated s (readHalf s.params.wmax h s.act.xorout)
  | .table b h => gated s (readHalf s.params.wmax h (tableEntry s.table b))
  | .reserved => 0

/-- What a HOST write of word d to a register other than CMD stores (R24 to R30, R65): an RW register keeps its
writable bits; RO registers and RAZ/WI locations ignore the write. A write to CMD is a command issue (R31) and
stores nothing here. -/
def writeReg (r : Reg) (d : Word) (s : State) : State :=
  match r with
  | .cfgWidth => { s with cfg := { s.cfg with width := d.extractLsb' 0 7 } }
  | .cfgFlags => { s with cfg := { s.cfg with reflectIn := d.getLsbD 0, reflectOut := d.getLsbD 1 } }
  | .cfgPoly h => { s with cfg := { s.cfg with poly := writeHalf s.params.wmax h d s.cfg.poly } }
  | .cfgInit h => { s with cfg := { s.cfg with init := writeHalf s.params.wmax h d s.cfg.init } }
  | .cfgXorout h => { s with cfg := { s.cfg with xorout := writeHalf s.params.wmax h d s.cfg.xorout } }
  | .operand h => { s with operand := writeHalf s.params.wmax h d s.operand }
  | .param => s
  | .cmd => s
  | .status => s
  | .result _ => s
  | .actCfg => s
  | .actPoly _ => s
  | .actInit _ => s
  | .actXorout _ => s
  | .table _ _ => s
  | .reserved => s

end Sys2Proof.Machine
end

