-- ==== Sys2Proof/Machine/Ops.lean ====
section
/-! DEFINITION. The operations every command shares: the error path (R204) and the return from it (R181, R207), the
latch (R47), the acceptance and completion steps of R101 and R103, reset (R230), and the HOST's queue. -/

namespace Sys2Proof.Machine

/-! ## Errors: the entry and the return -/

/-- The error path of R204: the four STATUS fields it writes. BUSY stays as it is and nothing is latched. -/
def raiseError (cause : ErrorCause) (s : State) : State :=
  { s with status := { s.status with error := true, errCause := cause, isOpen := false, resultValid := false } }

/-- The return from an error (R181, R207): ERROR and ERR_CAUSE, and nothing else. -/
def clearError (s : State) : State :=
  { s with status := { s.status with error := false, errCause := .noError } }

/-- A command's checks "in the order its rule lists them; the first that fails" gives the cause (R101, R205). -/
def firstFailing : List (Bool × ErrorCause) → Option ErrorCause
  | [] => none
  | (fails, cause) :: rest => if fails then some cause else firstFailing rest

/-! ## The latch and BUSY -/

/-- `lat_op <- w[31:24]; lat_arg <- w[23:0]` (R101), for the word of command i. -/
def latchCommand (i : Instr) (s : State) : State :=
  { s with latch := { s.latch with op := opField (encode i), arg := argField (encode i) } }

/-- The command word the latch holds (R47). -/
def latchedWord (s : State) : Word := joinFields s.latch.op s.latch.arg

/-- BUSY := 1, the last act of an acceptance (R101). -/
def beginBusy (s : State) : State := { s with status := { s.status with busy := true } }

/-- BUSY := 0, the last act of a completion (R103). -/
def endBusy (s : State) : State := { s with status := { s.status with busy := false } }

/-! ## The two steps of a command -/

/-- The acceptance step of R101 for a word that decodes to i, with BUSY = 0: discard (R206), the checks, the latch,
the acceptance effects, BUSY. -/
def acceptCommand (i : Instr) (checks : State → Option ErrorCause) (accepted : State → State) (s : State) : State :=
  if s.status.error ∧ i ≠ .clearErr then s
  else
    match checks s with
    | some cause => raiseError cause s
    | none => beginBusy (accepted (latchCommand i s))

/-- The completion step of R103, with BUSY = 1. -/
def completeCommand (completed : State → State) (s : State) : State := endBusy (completed s)

/-- What the block does when command i is before it. With BUSY = 0 it is i's acceptance (R101). With BUSY = 1 and i
in the latch it is i's completion (R103). With BUSY = 1 and another word in the latch the CMD write of i is held and
nothing changes (R66). DESIGN CHOICE, safe: log 5. -/
def runCommand (i : Instr) (checks : State → Option ErrorCause) (accepted completed : State → State) (s : State) :
    StepOutcome :=
  if s.status.busy then
    if latchedWord s = encode i then .next (completeCommand completed s) else .next s
  else .next (acceptCommand i checks accepted s)

/-- A command without checks (R180, R181). -/
def noChecks (_ : State) : Option ErrorCause := none

/-- A command without acceptance effects, or a completion that writes only BUSY. -/
def noEffect (s : State) : State := s

/-! ## Result-producing commands -/

/-- `RESULT <- n; STATUS.RESULT_VALID <- 1` (R38, R122, R157, R159). -/
def produceResult (n : Nat) (s : State) : State :=
  { s with result := toValue n, status := { s.status with resultValid := true } }

/-! ## Reset -/

/-- Reset (R230, R231): every element takes the value of R49 and a latched command is dropped. It is no step of a run
(R230); it starts a new run, so the HOST's queue starts empty too (log 10). -/
def applyReset (s : State) : State := State.afterReset s.params

/-! ## The HOST's queue -/

/-- The HOST's first operation is finished with this reply. -/
def finishAccess (r : Reply) (s : State) : State := { s with host := s.host.tail, reply := r }

/-- The bus address of CMD (R22, R31). -/
def cmdAddr (p : Params) : Nat := p.base + 0x030

/-- The HOST operation that issues a command word (R89). -/
def issue (p : Params) (w : Word) : HostOp := .write (cmdAddr p) .word w

/-- The HOST's next operation becomes the issue of this word, in a block with no command in progress. -/
def queueCommand (w : Word) (s : State) : State :=
  { s with host := issue s.params w :: s.host, status := { s.status with busy := false } }

end Sys2Proof.Machine
end

