-- ==== Sys2Proof/Machine/Configuration.lean ====
section
/-! DEFINITION. CONFIGURE (R130 to R139). -/

namespace Sys2Proof.Machine

/-- Validation, in the source's order (R132). -/
def validate (wmax : Nat) (v : Variant) : Option ErrorCause :=
  firstFailing
    [(decide (v.width < 8 ∨ v.width > wmax), .invalidWidth),
      (decide (v.poly ≥ 2 ^ v.width), .invalidPoly),
      (decide (v.init ≥ 2 ^ v.width), .invalidInit),
      (decide (v.xorout ≥ 2 ^ v.width), .invalidXorout)]

/-- The checks of R130: SEQUENCE when a message is open, then the validation of the staging configuration. -/
def configureChecks (s : State) : Option ErrorCause :=
  if s.status.isOpen then some .sequence else validate s.params.wmax s.cfg.numbers

/-- The acceptance effects of R131: the snapshot, and the old configuration withdrawn. -/
def configureAcceptance (s : State) : State :=
  { s with
    latch := { s.latch with cfg := s.cfg }
    status := { s.status with configured := false, resultValid := false } }

/-- The completion of R137: normalise, install the active configuration, build TABLE, CONFIGURED := 1. -/
def configureCompletion (s : State) : State :=
  { s with
    act := s.latch.cfg.stored
    table := buildTable (normalise s.latch.cfg.numbers)
    status := { s.status with configured := true } }

/-- CONFIGURE (R130). -/
def execConfigure (s : State) : StepOutcome :=
  runCommand .configure configureChecks configureAcceptance configureCompletion s

end Sys2Proof.Machine
end

