-- ==== Sys2Proof/Machine/Control.lean ====
section
/-! DEFINITION. The control commands NOP (R180) and CLEAR_ERR (R181). -/

namespace Sys2Proof.Machine

/-- NOP (R180): no checks, no effect but BUSY. -/
def execNop (s : State) : StepOutcome := runCommand .nop noChecks noEffect noEffect s

/-- CLEAR_ERR (R181): no checks; its completion clears ERROR and ERR_CAUSE. -/
def execClearErr (s : State) : StepOutcome := runCommand .clearErr noChecks noEffect clearError s

end Sys2Proof.Machine
end

