-- ==== Sys2Proof/Machine/Digest.lean ====
section
/-! DEFINITION. The digest commands START (R155), BYTE (R156), FINAL (R157) and CHECK (R159). -/

namespace Sys2Proof.Machine

/-- START and CHECK (R155, R159): a configuration must be installed and no message open. -/
def needsNoMessage (s : State) : Option ErrorCause :=
  firstFailing [(!s.status.configured, .notConfigured), (s.status.isOpen, .sequence)]

/-- FINAL (R157): a configuration must be installed and a message open. -/
def needsMessage (s : State) : Option ErrorCause :=
  firstFailing [(!s.status.configured, .notConfigured), (!s.status.isOpen, .notOpen)]

/-- BYTE (R156): as FINAL, then VALUE > 0xFF. -/
def byteChecks (value : Nat) (s : State) : Option ErrorCause :=
  firstFailing
    [(!s.status.configured, .notConfigured), (!s.status.isOpen, .notOpen),
      (decide (value > 0xFF), .invalidMessage)]

/-- `crc <- act_init; STATUS.OPEN <- 1; STATUS.RESULT_VALID <- 0` (R155). -/
def startCompletion (s : State) : State :=
  { s with crc := s.act.init, status := { s.status with isOpen := true, resultValid := false } }

/-- lat_arg[7:0] (R156). -/
def latchedByte (s : State) : Nat := (s.latch.arg.extractLsb' 0 8).toNat

/-- `crc <- step(crc, lat_arg[7:0])` (R156). -/
def byteCompletion (s : State) : State :=
  { s with crc := toValue (byteStep s.act.numbers (tableNumbers s.table) s.crc.toNat (latchedByte s)) }

/-- OPEN := 0 (R157). -/
def closeMessage (s : State) : State := { s with status := { s.status with isOpen := false } }

/-- `RESULT <- finalize(crc); STATUS.RESULT_VALID <- 1; STATUS.OPEN <- 0` (R157). crc is not written. -/
def finalCompletion (s : State) : State :=
  closeMessage (produceResult (finalize s.act.numbers s.crc.toNat) s)

/-- `RESULT <- Calculate(CHECK_MESSAGE); STATUS.RESULT_VALID <- 1` (R159), over a private accumulator. -/
def checkCompletion (s : State) : State :=
  produceResult (calculate s.act.numbers (tableNumbers s.table) checkMessage) s

/-- START (R155). -/
def execStart (s : State) : StepOutcome := runCommand .start needsNoMessage noEffect startCompletion s

/-- BYTE (R156). -/
def execByte (value : Nat) (s : State) : StepOutcome :=
  runCommand (.byte value) (byteChecks value) noEffect byteCompletion s

/-- FINAL (R157). -/
def execFinal (s : State) : StepOutcome := runCommand .final needsMessage noEffect finalCompletion s

/-- CHECK (R159). -/
def execCheck (s : State) : StepOutcome := runCommand .check needsNoMessage noEffect checkCompletion s

end Sys2Proof.Machine
end

