-- ==== Sys2Proof/Machine/Reversal.lean ====
section
/-! DEFINITION. REVERSE (R122). -/

namespace Sys2Proof.Machine

/-- The checks of R122: NBITS > WMAX, then OPERAND ≥ 2^NBITS. -/
def reverseChecks (nbits : Nat) (s : State) : Option ErrorCause :=
  firstFailing
    [(decide (nbits > s.params.wmax), .invalidNbits),
      (decide (s.operand.toNat ≥ 2 ^ nbits), .invalidReverseValue)]

/-- `lat_operand <- OPERAND` (R122). -/
def snapshotOperand (s : State) : State := { s with latch := { s.latch with operand := s.operand } }

/-- `RESULT <- reverseBits(lat_operand, zext(lat_arg[6:0])); STATUS.RESULT_VALID <- 1` (R122). -/
def reverseCompletion (s : State) : State :=
  produceResult (reversedBits s.latch.operand.toNat (nbitsField s.latch.arg).toNat) s

/-- REVERSE (R122). -/
def execReverse (nbits : Nat) (s : State) : StepOutcome :=
  runCommand (.reverse nbits) (reverseChecks nbits) snapshotOperand reverseCompletion s

end Sys2Proof.Machine
end

