-- ==== Sys2Proof/Machine/Dispatch.lean ====
section
/-! DEFINITION. One arm per command: what the block does when the command is before it (R101, R103). -/

namespace Sys2Proof.Machine

def exec (i : Instr) (s : State) : Host.Outcome State Fault Refusal :=
  match i with
  | .nop => Sys2Proof.Machine.execNop s
  | .configure => Sys2Proof.Machine.execConfigure s
  | .start => Sys2Proof.Machine.execStart s
  | .byte value => Sys2Proof.Machine.execByte value s
  | .final => Sys2Proof.Machine.execFinal s
  | .check => Sys2Proof.Machine.execCheck s
  | .reverse nbits => Sys2Proof.Machine.execReverse nbits s
  | .clearErr => Sys2Proof.Machine.execClearErr s

end Sys2Proof.Machine
end

