-- ==== Sys2Proof/Machine/Interleave.lean ====
section
/-! DEFINITION. The steps of the machine (R100): one HOST access (R62 to R66), one ENGINE completion (R103), and which
of them is taken next. -/

namespace Sys2Proof.Machine

/-! ## The ENGINE -/

/-- The acceptance of any word w, with BUSY = 0 (R101): the discard of R206, the decoder, ILLEGAL_COMMAND for an
illegal word (R86), and otherwise the command. -/
def acceptWord (w : Word) (s : State) : StepOutcome :=
  if s.status.error ∧ w ≠ 0x07000000 then .next s
  else
    match decode w with
    | .illegal _ => .next (raiseError .illegalCommand s)
    | .command i => exec i s

/-- The ENGINE step, with BUSY = 1 (R103): the latched command. -/
def engineStep (s : State) : StepOutcome :=
  match decode (latchedWord s) with
  | .command i => exec i s
  | .illegal _ => .fault .noLatchedCommand

/-! ## The HOST -/

/-- What a HOST access reaches (R61, R62). -/
inductive Selected where
  /-- An address outside the window: not this block. -/
  | elsewhere
  /-- In the window, but no full word at an offset that is a multiple of 4. -/
  | busError
  /-- A register of the window. -/
  | register (r : Reg)
  deriving DecidableEq, Repr

/-- Address decode (R61) and the performed accesses (R62). -/
def select (p : Params) (addr : Nat) (size : AccessSize) : Selected :=
  if p.base ≤ addr ∧ addr < p.base + 4096 then
    if size = .word ∧ (addr - p.base) % 4 = 0 then .register (regAt (addr - p.base)) else .busError
  else .elsewhere

/-- One HOST read (R64). -/
def hostRead (addr : Nat) (size : AccessSize) (s : State) : StepOutcome :=
  match select s.params addr size with
  | .elsewhere => .refused (.outsideWindow addr)
  | .busError => .next (finishAccess .busError s)
  | .register r => .next (finishAccess (.data (readReg r s)) s)

/-- One HOST write (R65): CMD issues a command (R31). -/
def hostWrite (addr : Nat) (size : AccessSize) (d : Word) (s : State) : StepOutcome :=
  match select s.params addr size with
  | .elsewhere => .refused (.outsideWindow addr)
  | .busError => .next (finishAccess .busError s)
  | .register .cmd => acceptWord d (finishAccess .written s)
  | .register r => .next (writeReg r d (finishAccess .written s))

/-- One read of a poll (R89): the operation is finished when the condition holds, and stays otherwise. -/
def hostPoll (addr : Nat) (m v : Word) (s : State) : StepOutcome :=
  match select s.params addr .word with
  | .elsewhere => .refused (.outsideWindow addr)
  | .busError => .next { s with reply := .busError }
  | .register r =>
    if readReg r s &&& m = v then .next (finishAccess (.data (readReg r s)) s)
    else .next { s with reply := .data (readReg r s) }

/-- The HOST step (R100). -/
def hostStep (op : HostOp) (s : State) : StepOutcome :=
  match op with
  | .read addr size => hostRead addr size s
  | .write addr size d => hostWrite addr size d s
  | .poll addr m v => hostPoll addr m v s

/-- A CMD write: the one access that is not enabled while BUSY = 1 (R66, R100). -/
def isCommandIssue (p : Params) (op : HostOp) : Bool :=
  match op with
  | .read _ _ => false
  | .write addr size _ => decide (select p addr size = .register .cmd)
  | .poll _ _ _ => false

/-! ## Which agent moves -/

/-- The agent that moves when both can (R100): the next of the state's turns; past their end the HOST until it has had
its free number of steps, and then the ENGINE, which is the weak fairness of R107. -/
def nextTurn (s : State) : Agent :=
  match s.turns with
  | [] => if s.waited < Config.freeHostTurns s.choices then .host else .engine
  | a :: _ => a

/-- The choice has been made: a turn of the list is used up, or the HOST steps since the last free ENGINE step are
counted. -/
def spendTurn (s : State) : State :=
  { s with
    turns := s.turns.tail
    choices := if s.turns = [] ∧ nextTurn s = .engine then s.choices + 1 else s.choices
    waited := if s.turns = [] then (if nextTurn s = .engine then 0 else s.waited + 1) else s.waited }

/-- One step of the machine. With BUSY = 0 only the HOST can move, and with nothing to do the block is idle and
retains its state (R215). With BUSY = 1 the ENGINE can move, and the HOST unless its next operation is a CMD write,
which is held (R66). -/
def advance (s : State) : StepOutcome :=
  match s.host with
  | [] => if s.status.busy then engineStep s else .next s
  | op :: _ =>
    if s.status.busy then
      if isCommandIssue s.params op then engineStep s
      else
        match nextTurn s with
        | .host => hostStep op (spendTurn s)
        | .engine => engineStep (spendTurn s)
    else hostStep op s

end Sys2Proof.Machine
end

