-- ==== Sys2Proof/Machine/Step.lean ====
section
/-! DEFINITION. One step of the machine, and how the host places one command word. -/

namespace Sys2Proof.Machine

/-- One step: a HOST access or an ENGINE completion (R100). -/
def step (s : State) : Host.Outcome State Fault Refusal := advance s

/-- The command word of the opcode table placed as the HOST's next operation, so that the next step is its CMD write
(R31, R70): the HOST's stream of CMD writes is the only program (log 6). -/
def State.withFetchWord (s : State) (nbits w : Nat) : State :=
  queueCommand (BitVec.ofNat 32 (w % 2 ^ nbits)) s

end Sys2Proof.Machine
end

