-- ==== Sys2Proof/Machine/Assembler.lean ====
section
/-! DEFINITION. The assembler of R89 and the pseudo-instructions of R90: what the HOST's queue holds for each. -/

namespace Sys2Proof.Machine

/-- `wr OFF, IMM32` (R89). -/
def wr (p : Params) (off : Nat) (d : Word) : HostOp := .write (p.base + off) .word d

/-- `rd OFF` (R89). -/
def rd (p : Params) (off : Nat) : HostOp := .read (p.base + off) .word

/-- `poll OFF, MASK, VAL` (R89). -/
def poll (p : Params) (off : Nat) (m v : Word) : HostOp := .poll (p.base + off) m v

/-- A `crc.*` command (R89): `wr 0x030, <word>`; refused when an operand does not fit its field. -/
def assemble (p : Params) (i : Instr) : Option HostOp :=
  if i.wellFormed then some (issue p (encode i)) else none

/-- The two words of a 64-bit operand, for the expansions of R90. -/
def loWord (v : Value) : Word := v.extractLsb' 0 32

/-- See `loWord`. -/
def hiWord (v : Value) : Word := v.extractLsb' 32 32

/-- `crc.wait` (R90). -/
def crcWait (p : Params) : List HostOp := [poll p 0x034 0x00000001 0x00000000]

/-- `crc.setcfg W, P, I, RI, RO, X` (R90). -/
def crcSetcfg (p : Params) (w : Word) (poly init : Value) (ri ro : Bool) (xorout : Value) : List HostOp :=
  [wr p 0x004 w, wr p 0x008 (0#30 ++ BitVec.ofBool ro ++ BitVec.ofBool ri),
    wr p 0x010 (loWord poly), wr p 0x014 (hiWord poly), wr p 0x018 (loWord init), wr p 0x01C (hiWord init),
    wr p 0x020 (loWord xorout), wr p 0x024 (hiWord xorout)]

/-- `crc.setop V` (R90). -/
def crcSetop (p : Params) (v : Value) : List HostOp := [wr p 0x028 (loWord v), wr p 0x02C (hiWord v)]

/-- A list of `crc.*` commands (R89): refused when one of them is. -/
def assembleAll (p : Params) : List Instr → Option (List HostOp)
  | [] => some []
  | i :: rest => do
    let op ← assemble p i
    let ops ← assembleAll p rest
    some (op :: ops)

/-- `crc.bytes b0, …, bn-1` (R90): refused when a byte does not fit VALUE (R89). -/
def crcBytes (p : Params) (m : List Nat) : Option (List HostOp) := assembleAll p (m.map .byte)

/-- `crc.start; crc.bytes …; crc.final`: the commands of `crc.calc` (R90). -/
def crcMessage (p : Params) (m : List Nat) : Option (List HostOp) := do
  let start ← assemble p .start
  let bytes ← crcBytes p m
  let final ← assemble p .final
  some (start :: (bytes ++ [final]))

/-- `crc.calc b0, …, bn-1` (R90). -/
def crcCalc (p : Params) (m : List Nat) : Option (List HostOp) := do
  let ops ← crcMessage p m
  some (ops ++ crcWait p)

/-- `crc.rdres` (R90). -/
def crcRdres (p : Params) : List HostOp := [rd p 0x038, rd p 0x03C]

/-- `crc.rdstat` (R90). -/
def crcRdstat (p : Params) : List HostOp := [rd p 0x034]

end Sys2Proof.Machine
end

