-- ==== Sys2Proof/Safety.lean ====
section
/-! DEFINITION. The terms claims use: the events of a step (an acceptance, an error, a completion), the block seen
without the model's own fields, and the invariant of R48 with what it rests on. -/

namespace Sys2Proof.Machine

/-! ## Events -/

/-- The checks of a command, in the order its rule lists them (R205). -/
def commandChecks (i : Instr) (s : State) : Option ErrorCause :=
  match i with
  | .nop => none
  | .configure => configureChecks s
  | .start => needsNoMessage s
  | .byte value => byteChecks value s
  | .final => needsMessage s
  | .check => needsNoMessage s
  | .reverse nbits => reverseChecks nbits s
  | .clearErr => none

/-- The HOST's next operation is the CMD write of w (R31, R89). -/
def Issues (s : State) (w : Word) : Prop := s.host.head? = some (issue s.params w)

/-- The next step accepts command i (R101). -/
def Accepts (s : State) (i : Instr) : Prop :=
  s.status.busy = false ∧ (s.status.error = false ∨ i = .clearErr) ∧ commandChecks i s = none ∧
    ∃ w, Issues s w ∧ decode w = .command i

/-- The next step raises an error with this cause (R101, R204). -/
def Raises (s : State) (cause : ErrorCause) : Prop :=
  s.status.busy = false ∧ s.status.error = false ∧
    ∃ w, Issues s w ∧
      (((∃ why, decode w = .illegal why) ∧ cause = .illegalCommand) ∨
        ∃ i, decode w = .command i ∧ commandChecks i s = some cause)

/-- The ENGINE moves next (R100): BUSY = 1, and the HOST has no operation, or a held CMD write (R66), or the turn is
the ENGINE's. -/
def EngineMoves (s : State) : Prop :=
  s.status.busy = true ∧
    (s.host = [] ∨ ∃ op rest, s.host = op :: rest ∧ (isCommandIssue s.params op = true ∨ nextTurn s = .engine))

/-- The HOST performs this access next, and it is no CMD write (R100). -/
def HostAccesses (s : State) (op : HostOp) : Prop :=
  s.host.head? = some op ∧ isCommandIssue s.params op = false ∧ (s.status.busy = false ∨ nextTurn s = .host)

/-- The next step is the completion of command i (R103). -/
def Completes (s : State) (i : Instr) : Prop := EngineMoves s ∧ decode (latchedWord s) = .command i

/-- Command i is in the latch and has not completed (R33, R47). -/
def InProgress (s : State) (i : Instr) : Prop := s.status.busy = true ∧ latchedWord s = encode i

/-! ## The block alone -/

/-- The state of R20 alone: the model's own fields for the HOST and the interleaving are erased. -/
def blockOnly (s : State) : State := { s with host := [], reply := .none, turns := [], choices := 0, waited := 0 }

/-! ## The invariant -/

/-- v has no bit at or above position n. -/
def fits (n : Nat) (v : Value) : Prop := v.toNat < 2 ^ n

/-- Every value of a configuration is WMAX bits wide (R7). -/
def configFits (n : Nat) (c : CrcConfig) : Prop := fits n c.poly ∧ fits n c.init ∧ fits n c.xorout

/-- R7, R30: every value register is WMAX bits wide, and the bits at positions ≥ WMAX are 0. -/
structure RegistersFit (s : State) : Prop where
  staging : configFits s.params.wmax s.cfg
  operand : fits s.params.wmax s.operand
  result : fits s.params.wmax s.result
  active : configFits s.params.wmax s.act
  entries : ∀ b, fits s.params.wmax (tableEntry s.table b)
  working : fits s.params.wmax s.crc
  snapshot : configFits s.params.wmax s.latch.cfg
  snapshotOperand : fits s.params.wmax s.latch.operand

/-- R44: the active configuration is legal in its stored form. -/
def ActiveLegal (s : State) : Prop := s.act.numbers.Legal s.params.wmax

/-- R45: TABLE is the table of the active configuration. -/
def TableBuilt (s : State) : Prop :=
  ∀ b, b < 256 →
    tableNumbers s.table b = genTable s.act.width.toNat s.act.poly.toNat s.act.reflectIn b

/-- What stays true of a command between its acceptance and its completion: what its checks established. -/
def Ready (i : Instr) (s : State) : Prop :=
  match i with
  | .nop => True
  | .configure =>
    s.status.isOpen = false ∧ s.status.configured = false ∧ s.latch.cfg.numbers.Legal s.params.wmax
  | .start => s.status.configured = true ∧ s.status.isOpen = false
  | .byte value => s.status.configured = true ∧ s.status.isOpen = true ∧ value ≤ 0xFF
  | .final => s.status.configured = true ∧ s.status.isOpen = true
  | .check => s.status.configured = true ∧ s.status.isOpen = false
  | .reverse nbits => nbits ≤ s.params.wmax ∧ s.latch.operand.toNat < 2 ^ nbits
  | .clearErr => True

/-- The invariant of R48, with the facts it needs to be kept by every step. -/
structure BlockInv (s : State) : Prop where
  /-- R7, R8. -/
  params : s.params.Legal
  /-- R7, R30. -/
  registers : RegistersFit s
  /-- R48: CONFIGURED = 1 implies R44. -/
  active : s.status.configured = true → ActiveLegal s
  /-- R48: CONFIGURED = 1 implies R45. -/
  table : s.status.configured = true → TableBuilt s
  /-- R48: OPEN = 1 implies CONFIGURED = 1. -/
  openConfigured : s.status.isOpen = true → s.status.configured = true
  /-- R48: OPEN = 1 implies crc < 2^act_width. -/
  openCrc : s.status.isOpen = true → fits s.act.width.toNat s.crc
  /-- R48: ERROR = 0 exactly when ERR_CAUSE = 0. -/
  errorCause : s.status.error = false ↔ s.status.errCause = .noError
  /-- R204: an error closes the message and withdraws the result. -/
  errorClosed : s.status.error = true → s.status.isOpen = false ∧ s.status.resultValid = false
  /-- R48: BUSY = 1 implies ERROR = 0 or lat_op = 0x07; and the latch holds a command that passed its checks. -/
  busyLatch : s.status.busy = true →
    ∃ i, decode (latchedWord s) = .command i ∧ (i = .clearErr ∨ s.status.error = false) ∧ Ready i s

/-! ## Safe runs -/

/-- The end of a run (R105): the HOST has performed its last operation and BUSY = 0. -/
def Ended (s : State) : Prop := s.host = [] ∧ s.status.busy = false

/-- A step is safe when the machine goes on. -/
def StepsOn (s : State) : Prop := ∃ t, step s = .next t

/-- The bus address of a HOST operation. -/
def accessAddress : HostOp → Nat
  | .read addr _ => addr
  | .write addr _ _ => addr
  | .poll addr _ _ => addr

/-- Every pending HOST operation addresses the window (R61). -/
def HostInWindow (s : State) : Prop :=
  ∀ op ∈ s.host, s.params.base ≤ accessAddress op ∧ accessAddress op < s.params.base + 4096

end Sys2Proof.Machine
end

