-- ==== Sys2Proof/Certificates/Slice0/Obligations.lean ====
section
/-! DEFINITION. The statements about the model, for the provers. Each docstring names the rule of spec/ it formalises. -/

open Sys2Proof Sys2Proof.Machine

/-! ## Encoding -/

/-- R80 to R85, R88: no bit of an encoding is dropped. -/
def Obligations.EncodeThenDecodeGivesTheCommand : Prop :=
  ∀ i : Instr, i.wellFormed = true → decode (encode i) = .command i

/-- R85, R88: a word that decodes to a command is that command's one encoding, and its operand fits its field. -/
def Obligations.DecodeThenEncodeGivesTheWord : Prop :=
  ∀ (w : Word) (i : Instr), decode w = .command i → i.wellFormed = true ∧ encode i = w

/-- R85: the eight rows by their match and mask; every other word is illegal. -/
def Obligations.OpcodeMapRowsAreTheirMasks : Prop :=
  ∀ w : Word,
    (decode w = .command .nop ↔ w &&& 0xFFFFFFFF = 0x00000000) ∧
    (decode w = .command .configure ↔ w &&& 0xFFFFFFFF = 0x01000000) ∧
    (decode w = .command .start ↔ w &&& 0xFFFFFFFF = 0x02000000) ∧
    ((∃ v, decode w = .command (.byte v)) ↔ w &&& 0xFF000000 = 0x03000000) ∧
    (decode w = .command .final ↔ w &&& 0xFFFFFFFF = 0x04000000) ∧
    (decode w = .command .check ↔ w &&& 0xFFFFFFFF = 0x05000000) ∧
    ((∃ n, decode w = .command (.reverse n)) ↔ w &&& 0xFFFFFF80 = 0x06000000) ∧
    (decode w = .command .clearErr ↔ w &&& 0xFFFFFFFF = 0x07000000) ∧
    ((∃ why, decode w = .illegal why) ↔
      w ≠ 0x00000000 ∧ w ≠ 0x01000000 ∧ w ≠ 0x02000000 ∧ w &&& 0xFF000000 ≠ 0x03000000 ∧ w ≠ 0x04000000 ∧
        w ≠ 0x05000000 ∧ w &&& 0xFFFFFF80 ≠ 0x06000000 ∧ w ≠ 0x07000000)

/-- R86: the illegal words, and what the acceptance of one does. -/
def Obligations.IllegalWordsAndTheirAcceptance : Prop :=
  ∀ w : Word,
    ((∃ why, decode w = .illegal why) ↔
      (8 ≤ w.toNat >>> 24 ∨
        ((w.toNat >>> 24 = 0 ∨ w.toNat >>> 24 = 1 ∨ w.toNat >>> 24 = 2 ∨ w.toNat >>> 24 = 4 ∨ w.toNat >>> 24 = 5 ∨
          w.toNat >>> 24 = 7) ∧ w.toNat % 2 ^ 24 ≠ 0) ∨
        (w.toNat >>> 24 = 6 ∧ (w.toNat % 2 ^ 24) >>> 7 ≠ 0))) ∧
    ∀ s : State, s.status.busy = false → Issues s w → (∃ why, decode w = .illegal why) →
      step s = .next (if s.status.error then finishAccess .written s
        else raiseError .illegalCommand (finishAccess .written s))

/-- R82 to R85: one word of each row, written out from the table. -/
def Obligations.SampleWordsDecode : Prop :=
  decode 0b00000000000000000000000000000000 = .command .nop ∧
  decode 0b00000001000000000000000000000000 = .command .configure ∧
  decode 0b00000010000000000000000000000000 = .command .start ∧
  decode 0b00000011000000000000000000110001 = .command (.byte 0x31) ∧
  decode 0b00000100000000000000000000000000 = .command .final ∧
  decode 0b00000101000000000000000000000000 = .command .check ∧
  decode 0b00000110000000000000000001000000 = .command (.reverse 64) ∧
  decode 0b00000111000000000000000000000000 = .command .clearErr

/-! ## Steps -/

/-- R31, R101: with BUSY = 0 the CMD write of a word that decodes to i is i's acceptance, around which the step only
finishes the HOST's access. -/
def Obligations.StepRunsTheIssuedCommand : Prop :=
  ∀ (s : State) (w : Word) (i : Instr), s.status.busy = false → Issues s w → decode w = .command i →
    step s = exec i (finishAccess .written s)

/-- R103: an ENGINE step runs the latched command, around which it only spends the turn it was given. -/
def Obligations.EngineStepRunsTheLatchedCommand : Prop :=
  ∀ (s : State) (i : Instr), s.status.busy = true → decode (latchedWord s) = .command i →
    ((s.host = [] ∨ ∃ op rest, s.host = op :: rest ∧ isCommandIssue s.params op = true) → step s = exec i s) ∧
    ((∃ op rest, s.host = op :: rest ∧ isCommandIssue s.params op = false) → nextTurn s = .engine →
      step s = exec i (spendTurn s))

/-- R66: while BUSY = 1 a CMD write is held; the ENGINE's completion lifts the hold, and then the acceptance runs
with that word. -/
def Obligations.HeldWriteIsAcceptedAfterCompletion : Prop :=
  ∀ (s : State) (w : Word), BlockInv s → s.status.busy = true → Issues s w →
    ∃ t, step s = .next t ∧ t.status.busy = false ∧ t.host = s.host ∧ t.reply = s.reply ∧ Issues t w ∧
      step t = acceptWord w (finishAccess .written t)

/-- R64: a read returns its register's value, changes no state of the block, and is idempotent. -/
def Obligations.ReadsReturnTheRegisterAndChangeNothing : Prop :=
  (∀ (s : State) (off : Nat), off < 4096 → off % 4 = 0 →
    HostAccesses s (.read (s.params.base + off) .word) →
    ∃ t, step s = .next t ∧ t.reply = .data (readReg (regAt off) s) ∧ t.host = s.host.tail ∧
      blockOnly t = blockOnly s) ∧
  (∀ (s t : State) (r : Reg), blockOnly s = blockOnly t → readReg r s = readReg r t)

/-- R65: an aligned word write to a register other than CMD is performed at once, whatever BUSY is; RO registers and
RAZ/WI locations ignore it. -/
def Obligations.WritesStoreAtOnce : Prop :=
  ∀ (s : State) (off : Nat) (d : Word), off < 4096 → off % 4 = 0 → off ≠ 0x030 →
    HostAccesses s (.write (s.params.base + off) .word d) →
    ∃ t, step s = .next t ∧ t.reply = .written ∧ t.host = s.host.tail ∧
      blockOnly t = blockOnly (writeReg (regAt off) d s) ∧
      ((regAt off).access = .ro ∨ (regAt off).access = .razWi → blockOnly t = blockOnly s)

/-- R62, R208: any other access to the window gets a bus error response, whatever ERROR is; the block is unchanged
and a read returns no data. That the bus error is the reply in a next state, after which the HOST goes on, is the
model's reading (log 9); that a misaligned poll stays at the head of the queue is the model's choice (log 12). -/
def Obligations.OtherAccessesGetABusError : Prop :=
  (∀ (s : State) (off : Nat) (size : AccessSize) (op : HostOp), off < 4096 → ¬(size = .word ∧ off % 4 = 0) →
    (op = .read (s.params.base + off) size ∨ ∃ d, op = .write (s.params.base + off) size d) →
    s.host.head? = some op → (s.status.busy = false ∨ nextTurn s = .host) →
    ∃ t, step s = .next t ∧ t.reply = .busError ∧ t.host = s.host.tail ∧ blockOnly t = blockOnly s) ∧
  (∀ (s : State) (off : Nat) (m v : Word), off < 4096 → off % 4 ≠ 0 →
    s.host.head? = some (.poll (s.params.base + off) m v) → (s.status.busy = false ∨ nextTurn s = .host) →
    ∃ t, step s = .next t ∧ t.reply = .busError ∧ t.host = s.host ∧ blockOnly t = blockOnly s)

/-- R89: a poll repeats its read until the condition holds; each read changes no state of the block. -/
def Obligations.PollRepeatsUntilTheConditionHolds : Prop :=
  ∀ (s : State) (off : Nat) (m v : Word), off < 4096 → off % 4 = 0 →
    HostAccesses s (.poll (s.params.base + off) m v) →
    ∃ t, step s = .next t ∧ t.reply = .data (readReg (regAt off) s) ∧ blockOnly t = blockOnly s ∧
      t.host = (if readReg (regAt off) s &&& m = v then s.host.tail else s.host)

/-- R103, R107: an ENGINE step always completes the latched command and clears BUSY; no accepted command is pending
for ever; a crc.wait poll ends; and a poll on another condition may spin for ever, as R107's example does. The weak
fairness R107 asks of the schedule is the model's Config.freeHostTurns (log 4). -/
def Obligations.EngineStepClearsBusy : Prop :=
  (∀ s : State, BlockInv s → EngineMoves s →
    ∃ t, step s = .next t ∧ t.status.busy = false ∧ t.host = s.host ∧ t.reply = s.reply) ∧
  (∀ s : State, BlockInv s → HostInWindow s → s.status.busy = true →
    ∃ (k : Nat) (t : State), Host.Core.run Sys2Proof.core k s = .next t ∧ t.status.busy = false) ∧
  (∀ (s : State) (rest : List HostOp), BlockInv s → s.host = crcWait s.params ++ rest →
    ∃ (k : Nat) (t : State), Host.Core.run Sys2Proof.core k s = .next t ∧ t.host = rest ∧ t.status.busy = false) ∧
  (∀ (s : State) (rest : List HostOp) (k : Nat), s.status.busy = false → s.status.configured = false →
    s.host = poll s.params 0x034 0x2 0x2 :: rest →
    ∃ t : State, Host.Core.run Sys2Proof.core k s = .next t ∧ t.host = s.host ∧ blockOnly t = blockOnly s)

/-- The machine goes on from every state of the invariant whose HOST stays in the window; nothing but an access
outside the window (R61) stops it. -/
def Obligations.OnlyAccessesOutsideTheWindowStop : Prop :=
  (∀ s : State, BlockInv s → HostInWindow s → StepsOn s) ∧
  (∀ (s : State) (f : Fault), BlockInv s → step s ≠ .fault f) ∧
  (∀ (s : State) (r : Refusal), step s = .refused r →
    ∃ addr, r = .outsideWindow addr ∧ ¬(s.params.base ≤ addr ∧ addr < s.params.base + 4096))

/-! ## The register window -/

/-- R22: the window of 4096 bytes at BASE, the map of its aligned words, the access types and what each register reads
right after reset. -/
def Obligations.RegisterMapOffsets : Prop :=
  (∀ (p : Params) (off : Nat), off < 4096 → off % 4 = 0 → select p (p.base + off) .word = .register (regAt off)) ∧
  (∀ (p : Params) (addr : Nat) (size : AccessSize),
    ¬(p.base ≤ addr ∧ addr < p.base + 4096) → select p addr size = .elsewhere) ∧
  regAt 0x000 = .param ∧ regAt 0x004 = .cfgWidth ∧ regAt 0x008 = .cfgFlags ∧
  regAt 0x010 = .cfgPoly .lo ∧ regAt 0x014 = .cfgPoly .hi ∧ regAt 0x018 = .cfgInit .lo ∧ regAt 0x01C = .cfgInit .hi ∧
  regAt 0x020 = .cfgXorout .lo ∧ regAt 0x024 = .cfgXorout .hi ∧ regAt 0x028 = .operand .lo ∧
  regAt 0x02C = .operand .hi ∧ regAt 0x030 = .cmd ∧ regAt 0x034 = .status ∧ regAt 0x038 = .result .lo ∧
  regAt 0x03C = .result .hi ∧ regAt 0x040 = .actCfg ∧ regAt 0x048 = .actPoly .lo ∧ regAt 0x04C = .actPoly .hi ∧
  regAt 0x050 = .actInit .lo ∧ regAt 0x054 = .actInit .hi ∧ regAt 0x058 = .actXorout .lo ∧
  regAt 0x05C = .actXorout .hi ∧
  (∀ b, b < 256 → regAt (0x100 + 8 * b) = .table b .lo ∧ regAt (0x104 + 8 * b) = .table b .hi) ∧
  (∀ off, off < 4096 → off % 4 = 0 →
    (off = 0x00C ∨ off = 0x044 ∨ (0x060 ≤ off ∧ off ≤ 0x0FC) ∨ 0x900 ≤ off ↔ regAt off = .reserved)) ∧
  (∀ h : Half, Reg.cfgWidth.access = .rw ∧ Reg.cfgFlags.access = .rw ∧ (Reg.cfgPoly h).access = .rw ∧
    (Reg.cfgInit h).access = .rw ∧ (Reg.cfgXorout h).access = .rw ∧ (Reg.operand h).access = .rw) ∧
  (∀ (h : Half) (b : Nat), Reg.param.access = .ro ∧ Reg.status.access = .ro ∧ (Reg.result h).access = .ro ∧
    Reg.actCfg.access = .ro ∧ (Reg.actPoly h).access = .ro ∧ (Reg.actInit h).access = .ro ∧
    (Reg.actXorout h).access = .ro ∧ (Reg.table b h).access = .ro) ∧
  Reg.cmd.access = .wo ∧ Reg.reserved.access = .razWi ∧
  (∀ (p : Params) (r : Reg), readReg r (State.afterReset p) = if r = .param then BitVec.ofNat 32 p.wmax else 0) ∧
  (∀ (s : State) (d : Word) (r : Reg), r.access ≠ .rw → writeReg r d s = s) ∧
  (∀ (s : State) (r : Reg), r.access = .wo ∨ r.access = .razWi → readReg r s = 0)

/-- R43: the reserved offsets, and the reserved bits of the defined registers. -/
def Obligations.ReservedLocationsReadZeroAndIgnoreWrites : Prop :=
  (∀ off, off < 4096 → off % 4 = 0 →
    (off = 0x00C ∨ off = 0x044 ∨ (0x060 ≤ off ∧ off ≤ 0x0FC) ∨ 0x900 ≤ off ↔ regAt off = .reserved)) ∧
  (∀ (s : State) (d : Word), readReg .reserved s = 0 ∧ writeReg .reserved d s = s) ∧
  (∀ (s : State) (off : Nat) (d : Word), off < 4096 → off % 4 = 0 → regAt off = .reserved →
    (HostAccesses s (.read (s.params.base + off) .word) →
      ∃ t, step s = .next t ∧ t.reply = .data 0 ∧ blockOnly t = blockOnly s) ∧
    (HostAccesses s (.write (s.params.base + off) .word d) →
      ∃ t, step s = .next t ∧ t.reply = .written ∧ blockOnly t = blockOnly s)) ∧
  (∀ (s : State) (k : Nat),
    (7 ≤ k → (readReg .cfgWidth s).getLsbD k = false) ∧
    (2 ≤ k → (readReg .cfgFlags s).getLsbD k = false) ∧
    (5 ≤ k ∧ k ≤ 7 ∨ 12 ≤ k → (readReg .status s).getLsbD k = false) ∧
    (k = 7 ∨ 10 ≤ k → (readReg .actCfg s).getLsbD k = false) ∧
    (7 ≤ k → s.params.Legal → (readReg .param s).getLsbD k = false)) ∧
  (∀ (s : State) (d d' : Word),
    ((∀ k, k < 7 → d.getLsbD k = d'.getLsbD k) → writeReg .cfgWidth d s = writeReg .cfgWidth d' s) ∧
    ((∀ k, k < 2 → d.getLsbD k = d'.getLsbD k) → writeReg .cfgFlags d s = writeReg .cfgFlags d' s))

/-- R23: PARAM is the constant WMAX; no step changes it. -/
def Obligations.ParamIsTheConstantWmax : Prop :=
  regAt 0x000 = .param ∧
  (∀ s : State, s.params.Legal → (readReg .param s).toNat = s.params.wmax) ∧
  (∀ (s : State) (d : Word), writeReg .param d s = s) ∧
  (∀ s t : State, step s = .next t → t.params = s.params)

/-- R24, R25: CFG_WIDTH and CFG_FLAGS keep their writable bits, whatever their values, and reset to 0; legality is
CONFIGURE's, so a CONFIGURE before WIDTH is written fails with INVALID_WIDTH. -/
def Obligations.CfgWidthAndFlagsKeepTheirFields : Prop :=
  regAt 0x004 = .cfgWidth ∧ regAt 0x008 = .cfgFlags ∧
  (∀ (s : State) (d : Word),
    writeReg .cfgWidth d s = { s with cfg := { s.cfg with width := BitVec.ofNat 7 (d.toNat % 128) } } ∧
    (readReg .cfgWidth s).toNat = s.cfg.width.toNat ∧
    writeReg .cfgFlags d s =
      { s with cfg := { s.cfg with reflectIn := d.toNat.testBit 0, reflectOut := d.toNat.testBit 1 } } ∧
    (readReg .cfgFlags s).toNat =
      (if s.cfg.reflectIn then 1 else 0) + (if s.cfg.reflectOut then 2 else 0)) ∧
  (∀ p : Params, readReg .cfgWidth (State.afterReset p) = 0 ∧ readReg .cfgFlags (State.afterReset p) = 0) ∧
  (∀ s : State, s.status.busy = false → s.status.error = false → s.status.isOpen = false → s.cfg.width = 0 →
    exec .configure s = .next (raiseError .invalidWidth s))

/-- R30: the composition of every value register from its two words. -/
def Obligations.ValueRegistersComposeTheirWords : Prop :=
  (∀ (s : State) (d : Word), s.params.Legal → RegistersFit s →
    ((writeReg (.cfgPoly .lo) d s).cfg.poly.toNat =
        ((s.cfg.poly.toNat >>> 32) <<< 32) ||| (d.toNat &&& mask (min 32 s.params.wmax)) ∧
      (writeReg (.cfgPoly .hi) d s).cfg.poly.toNat =
        if s.params.wmax > 32 then
          (s.cfg.poly.toNat &&& mask 32) ||| ((d.toNat &&& mask (s.params.wmax - 32)) <<< 32)
        else s.cfg.poly.toNat) ∧
    ((writeReg (.cfgInit .lo) d s).cfg.init.toNat =
        ((s.cfg.init.toNat >>> 32) <<< 32) ||| (d.toNat &&& mask (min 32 s.params.wmax)) ∧
      (writeReg (.cfgInit .hi) d s).cfg.init.toNat =
        if s.params.wmax > 32 then
          (s.cfg.init.toNat &&& mask 32) ||| ((d.toNat &&& mask (s.params.wmax - 32)) <<< 32)
        else s.cfg.init.toNat) ∧
    ((writeReg (.cfgXorout .lo) d s).cfg.xorout.toNat =
        ((s.cfg.xorout.toNat >>> 32) <<< 32) ||| (d.toNat &&& mask (min 32 s.params.wmax)) ∧
      (writeReg (.cfgXorout .hi) d s).cfg.xorout.toNat =
        if s.params.wmax > 32 then
          (s.cfg.xorout.toNat &&& mask 32) ||| ((d.toNat &&& mask (s.params.wmax - 32)) <<< 32)
        else s.cfg.xorout.toNat) ∧
    ((writeReg (.operand .lo) d s).operand.toNat =
        ((s.operand.toNat >>> 32) <<< 32) ||| (d.toNat &&& mask (min 32 s.params.wmax)) ∧
      (writeReg (.operand .hi) d s).operand.toNat =
        if s.params.wmax > 32 then
          (s.operand.toNat &&& mask 32) ||| ((d.toNat &&& mask (s.params.wmax - 32)) <<< 32)
        else s.operand.toNat)) ∧
  (∀ (wmax : Nat) (v : Value), fits wmax v →
    (readHalf wmax .lo v).toNat = v.toNat % 2 ^ 32 ∧ (readHalf wmax .hi v).toNat = v.toNat >>> 32 ∧
    (wmax ≤ 32 → readHalf wmax .hi v = 0)) ∧
  (∀ (wmax : Nat) (v : Value) (k : Nat),
    (wmax ≤ k → (readHalf wmax .lo v).getLsbD k = false) ∧
    (wmax ≤ 32 + k → (readHalf wmax .hi v).getLsbD k = false)) ∧
  (∀ (s : State) (h : Half),
    readReg (.cfgPoly h) s = readHalf s.params.wmax h s.cfg.poly ∧
    readReg (.cfgInit h) s = readHalf s.params.wmax h s.cfg.init ∧
    readReg (.cfgXorout h) s = readHalf s.params.wmax h s.cfg.xorout ∧
    readReg (.operand h) s = readHalf s.params.wmax h s.operand ∧
    readReg (.result h) s = readHalf s.params.wmax h s.result ∧
    (s.status.configured = true →
      readReg (.actPoly h) s = readHalf s.params.wmax h s.act.poly ∧
      readReg (.actInit h) s = readHalf s.params.wmax h s.act.init ∧
      readReg (.actXorout h) s = readHalf s.params.wmax h s.act.xorout ∧
      ∀ b, readReg (.table b h) s = readHalf s.params.wmax h (tableEntry s.table b)))

/-- R24 to R30, R65, the frame of a write: every other register reads as before, and nothing but the staging
configuration and OPERAND can change. -/
def Obligations.WritesLeaveEveryOtherRegisterAlone : Prop :=
  ∀ (s : State) (r r' : Reg) (d : Word),
    (r' ≠ r → readReg r' (writeReg r d s) = readReg r' s) ∧
    ∃ (c : CrcConfig) (v : Value), writeReg r d s = { s with cfg := c, operand := v }

/-- R32: the STATUS word with the cause codes of R201, and that writes to it are ignored. The codes 0xC to 0xF are
never reported, and ERR_CAUSE is 0 exactly when ERROR = 0. -/
def Obligations.StatusWordHoldsItsFields : Prop :=
  regAt 0x034 = .status ∧ readReg .status State.reset = 0 ∧
  ((.noError : ErrorCause).code = 0x0 ∧ ErrorCause.invalidWidth.code = 0x1 ∧ ErrorCause.invalidPoly.code = 0x2 ∧
    ErrorCause.invalidInit.code = 0x3 ∧ ErrorCause.invalidXorout.code = 0x4 ∧
    ErrorCause.invalidReverseValue.code = 0x5 ∧ ErrorCause.invalidMessage.code = 0x6 ∧
    ErrorCause.invalidNbits.code = 0x7 ∧ ErrorCause.notConfigured.code = 0x8 ∧ ErrorCause.notOpen.code = 0x9 ∧
    ErrorCause.sequence.code = 0xA ∧ ErrorCause.illegalCommand.code = 0xB) ∧
  (∀ s : State, ((readReg .status s).extractLsb' 8 4).toNat ≤ 0xB) ∧
  (∀ s : State, BlockInv s → (s.status.error = false ↔ (readReg .status s).extractLsb' 8 4 = 0)) ∧
  ∀ (s : State) (d : Word),
    (readReg .status s).getLsbD 0 = s.status.busy ∧
    (readReg .status s).getLsbD 1 = s.status.configured ∧
    (readReg .status s).getLsbD 2 = s.status.isOpen ∧
    (readReg .status s).getLsbD 3 = s.status.resultValid ∧
    (readReg .status s).getLsbD 4 = s.status.error ∧
    (readReg .status s).extractLsb' 8 4 = s.status.errCause.code ∧
    (readReg .status s).extractLsb' 5 3 = 0 ∧
    (readReg .status s).extractLsb' 12 20 = 0 ∧
    writeReg .status d s = s

/-- R39, R41: ACT_CFG and the TABLE window, while CONFIGURED = 1 and while it is 0; the HOST cannot write them. -/
def Obligations.ActCfgAndTableReadback : Prop :=
  ∀ (s : State) (d : Word) (b : Nat), b < 256 → RegistersFit s →
    (s.status.configured = true →
      (readReg (regAt 0x040) s).toNat =
        s.act.width.toNat + (if s.act.reflectIn then 256 else 0) + (if s.act.reflectOut then 512 else 0) ∧
      (readReg (regAt (0x100 + 8 * b)) s).toNat = (tableEntry s.table b).toNat % 2 ^ 32 ∧
      (readReg (regAt (0x104 + 8 * b)) s).toNat = (tableEntry s.table b).toNat >>> 32) ∧
    (s.status.configured = false →
      readReg (regAt 0x040) s = 0 ∧ readReg (regAt (0x100 + 8 * b)) s = 0 ∧ readReg (regAt (0x104 + 8 * b)) s = 0) ∧
    writeReg (regAt 0x040) d s = s ∧
    writeReg (regAt (0x100 + 8 * b)) d s = s ∧ writeReg (regAt (0x104 + 8 * b)) d s = s

/-- R42: readback gating. -/
def Obligations.ReadbackIsGatedByConfigured : Prop :=
  (∀ (s : State) (h : Half) (b : Nat), s.status.configured = false →
    readReg .actCfg s = 0 ∧ readReg (.actPoly h) s = 0 ∧ readReg (.actInit h) s = 0 ∧
    readReg (.actXorout h) s = 0 ∧ readReg (.table b h) s = 0) ∧
  (∀ s : State, (applyReset s).status.configured = false) ∧
  (∀ s t : State, step s = .next t → s.status.configured = false → t.status.configured = true →
    Completes s .configure) ∧
  (∀ s t : State, step s = .next t → Accepts s .configure → t.status.configured = false) ∧
  (∀ (s t : State) (h : Half) (b : Nat), step s = .next t → s.status.configured = true →
    t.status.configured = true → ¬ Completes s .configure →
    readReg .actCfg t = readReg .actCfg s ∧ readReg (.actPoly h) t = readReg (.actPoly h) s ∧
    readReg (.actInit h) t = readReg (.actInit h) s ∧ readReg (.actXorout h) t = readReg (.actXorout h) s ∧
    readReg (.table b h) t = readReg (.table b h) s)

/-! ## The commands -/

/-- R180: NOP. -/
def Obligations.NopWritesNothingButBusy : Prop :=
  decode 0x00000000 = .command .nop ∧
  (∀ s : State, s.status.busy = false → s.status.error = false →
    exec .nop s = .next { s with
      latch := { s.latch with op := 0x00, arg := 0 }, status := { s.status with busy := true } }) ∧
  (∀ s : State, InProgress s .nop → exec .nop s = .next { s with status := { s.status with busy := false } }) ∧
  (∀ s : State, s.status.busy = false → s.status.error = true → exec .nop s = .next s) ∧
  (∀ w : Word, 0x00000001 ≤ w.toNat → w.toNat ≤ 0x00FFFFFF → ∃ why, decode w = .illegal why)

/-- R181: CLEAR_ERR, the return from an error. It is accepted whatever ERROR is. -/
def Obligations.ClearErrClearsOnlyTheError : Prop :=
  decode 0x07000000 = .command .clearErr ∧
  (∀ s : State, s.status.busy = false →
    exec .clearErr s = .next { s with
      latch := { s.latch with op := 0x07, arg := 0 }, status := { s.status with busy := true } }) ∧
  (∀ s : State, InProgress s .clearErr →
    exec .clearErr s = .next { s with
      status := { s.status with error := false, errCause := .noError, busy := false } }) ∧
  (∀ s : State, InProgress s .clearErr → s.status.error = false → s.status.errCause = .noError →
    exec .clearErr s = .next { s with status := { s.status with busy := false } }) ∧
  (∀ w : Word, opField w = 0x07 → argField w ≠ 0 →
    (∃ why, decode w = .illegal why) ∧
    ∀ s : State, s.status.busy = false → Issues s w →
      step s = .next (if s.status.error then finishAccess .written s
        else raiseError .illegalCommand (finishAccess .written s)))

/-- R130 to R132: CONFIGURE's checks in order, and what its acceptance writes. -/
def Obligations.ConfigureChecksThenSnapshots : Prop :=
  decode 0x01000000 = .command .configure ∧
  ∀ s : State, s.status.busy = false → s.status.error = false →
    exec .configure s = .next (
      if s.status.isOpen = true then raiseError .sequence s
      else if s.cfg.width.toNat < 8 ∨ s.cfg.width.toNat > s.params.wmax then raiseError .invalidWidth s
      else if s.cfg.poly.toNat ≥ 2 ^ s.cfg.width.toNat then raiseError .invalidPoly s
      else if s.cfg.init.toNat ≥ 2 ^ s.cfg.width.toNat then raiseError .invalidInit s
      else if s.cfg.xorout.toNat ≥ 2 ^ s.cfg.width.toNat then raiseError .invalidXorout s
      else { s with
        latch := { s.latch with op := 0x01, arg := 0, cfg := s.cfg }
        status := { s.status with configured := false, resultValid := false, busy := true } })

/-- R133, R137: CONFIGURE's completion. -/
def Obligations.ConfigureInstallsTheStoredConfiguration : Prop :=
  ∀ s : State, InProgress s .configure →
    ∃ (poly init : Nat) (tab : Table),
      (s.latch.cfg.reflectIn = true →
        poly = reversedBits s.latch.cfg.poly.toNat s.latch.cfg.width.toNat ∧
        init = reversedBits s.latch.cfg.init.toNat s.latch.cfg.width.toNat) ∧
      (s.latch.cfg.reflectIn = false → poly = s.latch.cfg.poly.toNat ∧ init = s.latch.cfg.init.toNat) ∧
      (∀ b, b < 256 →
        tableEntry tab b = toValue (genTable s.latch.cfg.width.toNat poly s.latch.cfg.reflectIn b)) ∧
      exec .configure s = .next { s with
        act := { s.latch.cfg with poly := toValue poly, init := toValue init }
        table := tab
        status := { s.status with configured := true, busy := false } }

/-- R138: a CONFIGURE that fails a check leaves the active configuration, TABLE, CONFIGURED and crc, and closes the
message. -/
def Obligations.FailedConfigureKeepsTheOldConfiguration : Prop :=
  ∀ s : State, s.status.busy = false → s.status.error = false → configureChecks s ≠ none →
    ∃ t, exec .configure s = .next t ∧ t.act = s.act ∧ t.table = s.table ∧
      t.status.configured = s.status.configured ∧ t.crc = s.crc ∧ t.status.isOpen = false ∧
      t.status.resultValid = false ∧ t.status.error = true ∧ t = { s with status := t.status } ∧
      ∃ u, exec .clearErr t = .next u ∧ ∃ v, exec .clearErr u = .next v ∧ v.act = s.act ∧ v.table = s.table ∧
        v.status.configured = s.status.configured ∧ v.status.error = false ∧ v.status.busy = false

/-- R155: START. -/
def Obligations.StartOpensAMessage : Prop :=
  decode 0x02000000 = .command .start ∧
  (∀ s : State, s.status.busy = false → s.status.error = false →
    exec .start s = .next (
      if s.status.configured = false then raiseError .notConfigured s
      else if s.status.isOpen = true then raiseError .sequence s
      else { s with latch := { s.latch with op := 0x02, arg := 0 }, status := { s.status with busy := true } })) ∧
  (∀ s : State, InProgress s .start →
    exec .start s = .next { s with
      crc := s.act.init
      status := { s.status with isOpen := true, resultValid := false, busy := false } })

/-- R156, R150 to R152: BYTE, at every VALUE its field holds. -/
def Obligations.ByteStepsTheWorkingRegister : Prop :=
  (∀ value, value < 2 ^ 24 → decode (0x03000000 ||| BitVec.ofNat 32 value) = .command (.byte value)) ∧
  (∀ (s : State) (value : Nat), value < 2 ^ 24 → s.status.busy = false → s.status.error = false →
    exec (.byte value) s = .next (
      if s.status.configured = false then raiseError .notConfigured s
      else if s.status.isOpen = false then raiseError .notOpen s
      else if value > 0xFF then raiseError .invalidMessage s
      else { s with
        latch := { s.latch with op := 0x03, arg := BitVec.ofNat 24 value }
        status := { s.status with busy := true } })) ∧
  (∀ (s : State) (value : Nat), value ≤ 0xFF → InProgress s (.byte value) →
    exec (.byte value) s = .next { s with
      crc := toValue (
        if s.act.reflectIn then
          (s.crc.toNat >>> 8) ^^^ (tableEntry s.table ((s.crc.toNat ^^^ value) &&& 0xFF)).toNat
        else
          ((s.crc.toNat <<< 8) % 2 ^ s.act.width.toNat) ^^^
            (tableEntry s.table ((s.crc.toNat >>> (s.act.width.toNat - 8)) ^^^ value)).toNat)
      status := { s.status with busy := false } })

/-- R157, R153: FINAL. -/
def Obligations.FinalWritesTheDigest : Prop :=
  decode 0x04000000 = .command .final ∧
  (∀ s : State, s.status.busy = false → s.status.error = false →
    exec .final s = .next (
      if s.status.configured = false then raiseError .notConfigured s
      else if s.status.isOpen = false then raiseError .notOpen s
      else { s with latch := { s.latch with op := 0x04, arg := 0 }, status := { s.status with busy := true } })) ∧
  (∀ s : State, InProgress s .final →
    exec .final s = .next { s with
      result := toValue (
        (if s.act.reflectOut ≠ s.act.reflectIn then reversedBits s.crc.toNat s.act.width.toNat else s.crc.toNat) ^^^
          s.act.xorout.toNat)
      status := { s.status with resultValid := true, isOpen := false, busy := false } })

/-- R159, R158, R154: CHECK. -/
def Obligations.CheckWritesTheCheckValue : Prop :=
  decode 0x05000000 = .command .check ∧
  (∀ s : State, s.status.busy = false → s.status.error = false →
    exec .check s = .next (
      if s.status.configured = false then raiseError .notConfigured s
      else if s.status.isOpen = true then raiseError .sequence s
      else { s with latch := { s.latch with op := 0x05, arg := 0 }, status := { s.status with busy := true } })) ∧
  (∀ s : State, InProgress s .check →
    exec .check s = .next { s with
      result := toValue (finalize s.act.numbers
        ([0x31, 0x32, 0x33, 0x34, 0x35, 0x36, 0x37, 0x38, 0x39].foldl
          (byteStep s.act.numbers (tableNumbers s.table)) s.act.init.toNat))
      status := { s.status with resultValid := true, busy := false } })

/-- R122: REVERSE, at every NBITS its field holds. -/
def Obligations.ReverseWritesTheReversedOperand : Prop :=
  (∀ nbits, nbits < 2 ^ 7 → decode (0x06000000 ||| BitVec.ofNat 32 nbits) = .command (.reverse nbits)) ∧
  (∀ (s : State) (nbits : Nat), nbits < 2 ^ 7 → s.status.busy = false → s.status.error = false →
    exec (.reverse nbits) s = .next (
      if nbits > s.params.wmax then raiseError .invalidNbits s
      else if s.operand.toNat ≥ 2 ^ nbits then raiseError .invalidReverseValue s
      else { s with
        latch := { s.latch with op := 0x06, arg := BitVec.ofNat 24 nbits, operand := s.operand }
        status := { s.status with busy := true } })) ∧
  (∀ (s : State) (nbits r : Nat), nbits < 2 ^ 7 → InProgress s (.reverse nbits) →
    reverseBits s.latch.operand.toNat nbits = some r →
    exec (.reverse nbits) s = .next { s with
      result := toValue r
      status := { s.status with resultValid := true, busy := false } })

/-! ## Errors -/

/-- R203, R204: an error is precise: it is the error path's four fields, and nothing else of the block changes. -/
def Obligations.ErrorsWriteFourStatusFields : Prop :=
  (∀ (s : State) (cause : ErrorCause), Raises s cause →
    step s = .next { s with
      host := s.host.tail
      reply := .written
      status := { s.status with error := true, errCause := cause, isOpen := false, resultValid := false } }) ∧
  (∀ s t : State, step s = .next t → s.status.error = false → t.status.error = true →
    ∃ cause, cause ≠ .noError ∧ Raises s cause)

/-- R206: while ERROR = 1 every word but 0x07000000 is discarded, and the HOST's write still completes. -/
def Obligations.EveryOtherWordIsDiscardedWhileError : Prop :=
  (∀ (s : State) (w : Word), s.status.busy = false → s.status.error = true → w ≠ 0x07000000 → Issues s w →
    step s = .next { s with host := s.host.tail, reply := .written }) ∧
  (∀ (s : State) (i : Instr), s.status.busy = false → s.status.error = true → i ≠ .clearErr →
    exec i s = .next s)

/-- R205: exactly one outcome is taken, the first that applies: discard, ILLEGAL_COMMAND, the command's own checks in
their order, acceptance. -/
def Obligations.FirstApplicableOutcomeIsTaken : Prop :=
  (∀ (s : State) (w : Word), s.status.busy = false → Issues s w →
    ∃ t, step s = .next t ∧
      if s.status.error = true ∧ w ≠ 0x07000000 then t = finishAccess .written s
      else
        match decode w with
        | .illegal _ => t = raiseError .illegalCommand (finishAccess .written s)
        | .command i =>
          match commandChecks i s with
          | some cause => t = raiseError cause (finishAccess .written s)
          | none => InProgress t i ∧ t.status.error = s.status.error) ∧
  (∀ (s : State) (value nbits : Nat),
    commandChecks .nop s = none ∧ commandChecks .clearErr s = none ∧
    commandChecks .configure s =
      (if s.status.isOpen = true then some .sequence
      else if s.cfg.width.toNat < 8 ∨ s.cfg.width.toNat > s.params.wmax then some .invalidWidth
      else if s.cfg.poly.toNat ≥ 2 ^ s.cfg.width.toNat then some .invalidPoly
      else if s.cfg.init.toNat ≥ 2 ^ s.cfg.width.toNat then some .invalidInit
      else if s.cfg.xorout.toNat ≥ 2 ^ s.cfg.width.toNat then some .invalidXorout else none) ∧
    commandChecks .start s =
      (if s.status.configured = false then some .notConfigured
      else if s.status.isOpen = true then some .sequence else none) ∧
    commandChecks (.byte value) s =
      (if s.status.configured = false then some .notConfigured
      else if s.status.isOpen = false then some .notOpen
      else if value > 0xFF then some .invalidMessage else none) ∧
    commandChecks .final s =
      (if s.status.configured = false then some .notConfigured
      else if s.status.isOpen = false then some .notOpen else none) ∧
    commandChecks .check s =
      (if s.status.configured = false then some .notConfigured
      else if s.status.isOpen = true then some .sequence else none) ∧
    commandChecks (.reverse nbits) s =
      (if nbits > s.params.wmax then some .invalidNbits
      else if s.operand.toNat ≥ 2 ^ nbits then some .invalidReverseValue else none))

/-- R102: checks happen only at acceptance; a command in progress always completes, and no error is raised then. -/
def Obligations.CompletionsRaiseNoError : Prop :=
  ∀ (s : State) (i : Instr), InProgress s i →
    ∃ t, exec i s = .next t ∧ t.status.busy = false ∧
      (i ≠ .clearErr → t.status.error = s.status.error ∧ t.status.errCause = s.status.errCause) ∧
      (i = .clearErr → t.status.error = false ∧ t.status.errCause = .noError)

/-- R37: the events that write ERROR and ERR_CAUSE, and that the first cause is kept. -/
def Obligations.ErrorAndCauseChangeOnlyOnTheirEvents : Prop :=
  (∀ s t : State, step s = .next t →
    (∀ cause, Raises s cause → t.status.error = true ∧ t.status.errCause = cause) ∧
    (Completes s .clearErr → t.status.error = false ∧ t.status.errCause = .noError) ∧
    ((¬ ∃ cause, Raises s cause) → ¬ Completes s .clearErr →
      t.status.error = s.status.error ∧ t.status.errCause = s.status.errCause) ∧
    ((s.status.error = false ↔ s.status.errCause = .noError) →
      (t.status.error = false ↔ t.status.errCause = .noError)) ∧
    (s.status.error = true → t.status.error = true → t.status.errCause = s.status.errCause)) ∧
  (∀ s : State, (applyReset s).status.error = false ∧ (applyReset s).status.errCause = .noError)

/-! ## Which events change what -/

/-- R33: the events that write BUSY. -/
def Obligations.BusyChangesOnlyOnItsEvents : Prop :=
  (∀ s t : State, step s = .next t →
    (∀ i, Accepts s i → t.status.busy = true) ∧
    (∀ i, Completes s i → t.status.busy = false) ∧
    ((¬ ∃ i, Accepts s i) → (¬ ∃ i, Completes s i) → t.status.busy = s.status.busy)) ∧
  (∀ s t : State, ∀ w, step s = .next t → s.status.busy = true → Issues s w →
    t.host = s.host ∧ t.reply = s.reply) ∧
  (∀ s : State, (applyReset s).status.busy = false) ∧
  (∀ s : State, (readReg .status s).getLsbD 0 = s.status.busy)

/-- R34: the events that write CONFIGURED, and the commands that need it. -/
def Obligations.ConfiguredChangesOnlyOnItsEvents : Prop :=
  (∀ s t : State, step s = .next t →
    (Accepts s .configure → t.status.configured = false) ∧
    (Completes s .configure → t.status.configured = true) ∧
    (¬ Accepts s .configure → ¬ Completes s .configure → t.status.configured = s.status.configured)) ∧
  (∀ s : State, (applyReset s).status.configured = false) ∧
  (∀ (s : State) (i : Instr), s.status.busy = false → s.status.error = false → s.status.configured = false →
    (i = .start ∨ (∃ value, i = .byte value) ∨ i = .final ∨ i = .check) →
    exec i s = .next (raiseError .notConfigured s))

/-- R35: the events that write OPEN, and the commands that require it to be 1 or 0. -/
def Obligations.OpenChangesOnlyOnItsEvents : Prop :=
  (∀ s t : State, step s = .next t →
    (Completes s .start → t.status.isOpen = true) ∧
    (Completes s .final → t.status.isOpen = false) ∧
    (∀ cause, Raises s cause → t.status.isOpen = false) ∧
    (¬ Completes s .start → ¬ Completes s .final → (¬ ∃ cause, Raises s cause) →
      t.status.isOpen = s.status.isOpen)) ∧
  (∀ s : State, (applyReset s).status.isOpen = false) ∧
  (∀ s : State, (∀ value, Accepts s (.byte value) → s.status.isOpen = true) ∧
    (Accepts s .final → s.status.isOpen = true) ∧ (Accepts s .configure → s.status.isOpen = false) ∧
    (Accepts s .start → s.status.isOpen = false) ∧ (Accepts s .check → s.status.isOpen = false))

/-- R36: the events that write RESULT_VALID. -/
def Obligations.ResultValidChangesOnlyOnItsEvents : Prop :=
  (∀ s t : State, step s = .next t →
    (Completes s .final ∨ Completes s .check ∨ (∃ nbits, Completes s (.reverse nbits)) →
      t.status.resultValid = true) ∧
    (Accepts s .configure ∨ Completes s .start ∨ (∃ cause, Raises s cause) → t.status.resultValid = false) ∧
    (¬ Completes s .final → ¬ Completes s .check → (¬ ∃ nbits, Completes s (.reverse nbits)) →
      ¬ Accepts s .configure → ¬ Completes s .start → (¬ ∃ cause, Raises s cause) →
      t.status.resultValid = s.status.resultValid)) ∧
  (∀ s : State, (applyReset s).status.resultValid = false)

/-- R38: the place of RESULT and its two words. RESULT is written only by the completion of FINAL, CHECK and REVERSE,
never by an error; reads return it whatever STATUS says. -/
def Obligations.ResultIsWrittenOnlyByItsCommands : Prop :=
  regAt 0x038 = .result .lo ∧ regAt 0x03C = .result .hi ∧
  (∀ (s : State) (h : Half) (d : Word),
    writeReg (.result h) d s = s ∧ readReg (.result h) s = readHalf s.params.wmax h s.result) ∧
  (∀ s t : State, step s = .next t →
    (Completes s .final → t.result = toValue (finalize s.act.numbers s.crc.toNat)) ∧
    (Completes s .check → t.result = toValue (calculate s.act.numbers (tableNumbers s.table) checkMessage)) ∧
    (∀ nbits, Completes s (.reverse nbits) → t.result = toValue (reversedBits s.latch.operand.toNat nbits)) ∧
    (¬ Completes s .final → ¬ Completes s .check → (¬ ∃ nbits, Completes s (.reverse nbits)) →
      t.result = s.result)) ∧
  (∀ s : State, (applyReset s).result = 0) ∧
  (∀ (s : State) (st : Status) (h : Half), readReg (.result h) { s with status := st } = readReg (.result h) s)

/-- R46: crc is written only by the completion of START and of BYTE; no register shows it. -/
def Obligations.CrcIsWrittenOnlyByStartAndByte : Prop :=
  (∀ s t : State, step s = .next t →
    (Completes s .start → t.crc = s.act.init) ∧
    (∀ value, Completes s (.byte value) →
      t.crc = toValue (byteStep s.act.numbers (tableNumbers s.table) s.crc.toNat (value % 256))) ∧
    (¬ Completes s .start → (¬ ∃ value, Completes s (.byte value)) → t.crc = s.crc)) ∧
  (∀ (s : State) (v : Value) (r : Reg), readReg r { s with crc := v } = readReg r s) ∧
  (∀ s : State, BlockInv s → s.status.isOpen = true → s.crc.toNat < 2 ^ s.act.width.toNat)

/-- R139: between two CONFIGUREs no step changes the active configuration or TABLE. -/
def Obligations.OnlyConfigureChangesTheActiveConfiguration : Prop :=
  ∀ s t : State, step s = .next t → ¬ Completes s .configure → t.act = s.act ∧ t.table = s.table

/-- R47: the latch is written only by an acceptance, so HOST accesses never touch a command in progress. That it keeps
its value also while BUSY = 0, and that lat_cfg and lat_operand keep theirs over other commands' acceptances, is the
model's reading: U9 leaves them any value there (log 15). -/
def Obligations.LatchIsWrittenOnlyByAcceptance : Prop :=
  ∀ s t : State, step s = .next t →
    ((¬ ∃ i, Accepts s i) → t.latch = s.latch) ∧
    (∀ i, Accepts s i → latchedWord t = encode i ∧
      t.latch.cfg = (if i = .configure then s.cfg else s.latch.cfg) ∧
      ((∃ nbits, i = .reverse nbits) → t.latch.operand = s.operand) ∧
      ((¬ ∃ nbits, i = .reverse nbits) → t.latch.operand = s.latch.operand))

/-- R238: staging and OPERAND writes while BUSY = 1 take effect at once and never affect the command in progress. -/
def Obligations.StagingWritesDoNotAffectTheCommandInProgress : Prop :=
  (∀ (s t : State) (i : Instr) (r : Reg) (d : Word), InProgress s i → exec i s = .next t →
    exec i (writeReg r d s) = .next (writeReg r d t)) ∧
  (∀ (s : State) (off : Nat) (d : Word), off < 4096 → off % 4 = 0 → (regAt off).access = .rw →
    s.status.busy = true → HostAccesses s (.write (s.params.base + off) .word d) →
    ∃ t, step s = .next t ∧ blockOnly t = blockOnly (writeReg (regAt off) d s)) ∧
  (∀ s t : State, Accepts s .configure → step s = .next t → t.latch.cfg = s.cfg) ∧
  (∀ (s t : State) (nbits : Nat), Accepts s (.reverse nbits) → step s = .next t → t.latch.operand = s.operand)

/-! ## Reset and the invariant -/

/-- R231, R232: what reset leaves, whatever the state it is applied in: a command in progress is dropped with none of
its effects, and the readback reads 0. -/
def Obligations.ResetLeavesTheBlockIdle : Prop :=
  (∀ s t : State, (t = applyReset s ∨ t = State.reset) →
    t.status =
      { busy := false, configured := false, isOpen := false, resultValid := false, error := false,
        errCause := .noError } ∧
    t.cfg = { width := 0, reflectIn := false, reflectOut := false, poly := 0, init := 0, xorout := 0 } ∧
    t.operand = 0 ∧ t.result = 0 ∧
    ∀ r : Reg, readReg r t = if r = .param then BitVec.ofNat 32 t.params.wmax else 0) ∧
  (∀ s : State, (applyReset s).params = s.params)

/-- R48: the invariant holds right after reset, for every legal choice of the parameters. -/
def Obligations.ResetMeetsTheInvariant : Prop :=
  (∀ p : Params, p.Legal → BlockInv (State.afterReset p)) ∧ BlockInv State.reset

/-- R48: every step keeps the invariant, and the invariant gives the five points of the rule. -/
def Obligations.StepKeepsTheInvariant : Prop :=
  (∀ s t : State, BlockInv s → step s = .next t → BlockInv t) ∧
  ∀ s : State, BlockInv s →
    (s.status.isOpen = true → s.status.configured = true) ∧
    (s.status.busy = true → s.status.error = false ∨ s.latch.op = 0x07) ∧
    (s.status.error = false ↔ s.status.errCause.code = 0) ∧
    (s.status.configured = true →
      8 ≤ s.act.width.toNat ∧ s.act.width.toNat ≤ s.params.wmax ∧ s.act.poly.toNat < 2 ^ s.act.width.toNat ∧
      s.act.init.toNat < 2 ^ s.act.width.toNat ∧ s.act.xorout.toNat < 2 ^ s.act.width.toNat ∧
      ∀ b, b < 256 →
        (tableEntry s.table b).toNat = genTable s.act.width.toNat s.act.poly.toNat s.act.reflectIn b ∧
        (tableEntry s.table b).toNat < 2 ^ s.act.width.toNat) ∧
    (s.status.isOpen = true → s.crc.toNat < 2 ^ s.act.width.toNat)

/-! ## Laws of the functions -/

/-- R120, R121: reverseBits and its laws. -/
def Obligations.ReverseBitsLaws : Prop :=
  (∀ v n : Nat, (reverseBits v n = none ↔ 2 ^ n ≤ v) ∧ (v < 2 ^ n → reverseBits v n = some (reversedBits v n))) ∧
  (∀ v n : Nat, v < 2 ^ n →
    reversedBits v n < 2 ^ n ∧ reversedBits (reversedBits v n) n = v ∧
    ∀ j, j < n → (reversedBits v n).testBit j = v.testBit (n - 1 - j)) ∧
  (∀ n : Nat, reversedBits 0 n = 0 ∧ reversedBits (mask n) n = mask n) ∧
  (∀ v : Nat, v < 2 ^ 0 → v = 0 ∧ reversedBits v 0 = 0) ∧
  (∀ (wmax : Nat) (v : Variant), validate wmax v = none →
    reverseBits v.poly v.width ≠ none ∧ reverseBits v.init v.width ≠ none) ∧
  (∀ s : State, BlockInv s → s.status.isOpen = true → reverseBits s.crc.toNat s.act.width.toNat ≠ none) ∧
  (∀ s t : State, step s = .next t → s.status.errCause ≠ .invalidReverseValue →
    t.status.errCause = .invalidReverseValue →
    ∃ w nbits, Issues s w ∧ decode w = .command (.reverse nbits))

/-- R136: the laws of the table. -/
def Obligations.TableLaws : Prop :=
  (∀ (w p : Nat) (ri : Bool), 8 ≤ w → p < 2 ^ w →
    (∀ b, b < 256 → genTable w p ri b < 2 ^ w) ∧
    genTable w p ri 0 = 0 ∧
    (∀ a b, a < 256 → b < 256 → genTable w p ri (a ^^^ b) = genTable w p ri a ^^^ genTable w p ri b) ∧
    genTable w p false 1 = p ∧ genTable w p true 0x80 = p ∧
    (p = 0 → ∀ b, b < 256 → genTable w p ri b = 0)) ∧
  (∀ s s' t t' : State, InProgress s .configure → InProgress s' .configure →
    s.latch.cfg.width = s'.latch.cfg.width → s.latch.cfg.stored.poly = s'.latch.cfg.stored.poly →
    s.latch.cfg.reflectIn = s'.latch.cfg.reflectIn →
    s.latch.cfg.numbers.Legal 64 → s'.latch.cfg.numbers.Legal 64 →
    exec .configure s = .next t → exec .configure s' = .next t' → t.table = t'.table)

/-- R161: the digest of the empty message is a function of the configuration alone. -/
def Obligations.EmptyMessageDigest : Prop :=
  ∀ (v : Variant) (table : Nat → Nat),
    (v.reflectOut ≠ v.reflectIn → calculate v table [] = reversedBits v.init v.width ^^^ v.xorout) ∧
    (v.reflectOut = v.reflectIn → calculate v table [] = v.init ^^^ v.xorout)

/-- R163: every intermediate value stays below 2^W, and so does RESULT. -/
def Obligations.EveryIntermediateValueFitsTheWidth : Prop :=
  (∀ (wmax : Nat) (v : Variant) (m : List Nat), v.Legal wmax → (∀ b ∈ m, b < 256) →
    (∀ b k, b < 256 → (bitStepN v.width v.poly)^[k] (b <<< (v.width - 8)) < 2 ^ v.width ∧
      (bitStepR v.poly)^[k] b < 2 ^ v.width) ∧
    (∀ k, (m.take k).foldl (byteStep v (genTable v.width v.poly v.reflectIn)) v.init < 2 ^ v.width) ∧
    (∀ crc b, crc < 2 ^ v.width → b < 256 →
      (crc >>> (v.width - 8)) ^^^ b < 256 ∧ (crc ^^^ b) &&& 0xFF < 256 ∧ finalize v crc < 2 ^ v.width) ∧
    (normalise v).poly < 2 ^ v.width ∧ (normalise v).init < 2 ^ v.width ∧ digest v m < 2 ^ v.width) ∧
  (∀ s t : State, BlockInv s → step s = .next t → Completes s .final ∨ Completes s .check →
    t.result.toNat < 2 ^ s.act.width.toNat)

/-- R164: the table-driven digest is the digest of the direct bit-by-bit division. -/
def Obligations.TableDrivenDigestIsBitwiseDivision : Prop :=
  ∀ (wmax : Nat) (v : Variant) (m : List Nat), v.Legal wmax → (∀ b ∈ m, b < 256) → digest v m = bitwise v m

/-- R165: toggling reflectOut and reflecting xorout reverses the digest. -/
def Obligations.OutputReflectionLaw : Prop :=
  ∀ (wmax : Nat) (v : Variant) (m : List Nat), v.Legal wmax → (∀ b ∈ m, b < 256) →
    digest { v with reflectOut := !v.reflectOut, xorout := reversedBits v.xorout v.width } m =
      reversedBits (digest v m) v.width

/-- R166: the reflected branch on m is the non-reflected branch on the bit-reversed bytes of m. -/
def Obligations.InputReflectionLaw : Prop :=
  ∀ (wmax : Nat) (v : Variant) (m : List Nat), v.Legal wmax → (∀ b ∈ m, b < 256) →
    digest { v with reflectIn := true } m = digest { v with reflectIn := false } (m.map fun b => reversedBits b 8)

/-- R160: START, one BYTE for each byte of m, and FINAL end with RESULT = Calculate(m), the digest of the active
configuration: without the closing crc.wait in 2(n + 2) steps, and with it (crc.calc, R90) in a finite number of steps.
The HOST's queue (log 3) and the schedule (log 4) are the model's. -/
def Obligations.MessageRunLeavesItsDigest : Prop :=
  ∀ (s : State) (m : List Nat), BlockInv s → s.status.busy = false → s.status.error = false →
    s.status.configured = true → s.status.isOpen = false → (∀ b ∈ m, b < 256) →
    ∃ (ops waitOps : List HostOp) (k : Nat) (t u : State), crcMessage s.params m = some ops ∧ crcCalc s.params m = some waitOps ∧
      Host.Core.run Sys2Proof.core (2 * (m.length + 2)) { s with host := ops } = .next t ∧
      Host.Core.run Sys2Proof.core k { s with host := waitOps } = .next u ∧
      ∀ x : State, x = t ∨ x = u → Ended x ∧
        x.result.toNat = calculate s.act.numbers (genTable s.act.width.toNat s.act.poly.toNat s.act.reflectIn) m ∧
        x.status.resultValid = true ∧ x.status.isOpen = false ∧ x.status.error = false ∧
        x.act = s.act ∧ x.table = s.table

/-- R159, R160: CHECK gives what START, the nine BYTEs of "123456789" and FINAL give, and leaves crc and OPEN; with the
closing crc.wait (R90) it ends the same. The HOST's queue (log 3) and the schedule (log 4) are the model's. -/
def Obligations.CheckEqualsTheMessageOfTheNineDigits : Prop :=
  ∀ s : State, BlockInv s → s.status.busy = false → s.status.error = false → s.status.configured = true →
    s.status.isOpen = false →
    ∃ (ops : List HostOp) (k : Nat) (t u w : State), crcMessage s.params checkMessage = some ops ∧
      Host.Core.run Sys2Proof.core 22 { s with host := ops } = .next w ∧
      Host.Core.run Sys2Proof.core 2 { s with host := [issue s.params (encode .check)] } = .next t ∧
      Host.Core.run Sys2Proof.core k { s with host := issue s.params (encode .check) :: crcWait s.params } = .next u ∧
      ∀ x : State, x = t ∨ x = u → Ended x ∧ x.result = w.result ∧ x.crc = s.crc ∧ x.status.isOpen = false ∧
        x.status.resultValid = true ∧ x.act = s.act ∧ x.table = s.table

/-- R89, R90: what the assembler issues for a command, which operands it refuses, and the expansions of the
pseudo-instructions, which are refused when one of their commands is. -/
def Obligations.AssemblerIssuesTheCommandWord : Prop :=
  (∀ (p : Params) (m : List Nat), (∃ b ∈ m, 2 ^ 24 ≤ b) → crcBytes p m = none ∧ crcCalc p m = none) ∧
  (∀ (p : Params) (m : List Nat), (∀ b ∈ m, b < 2 ^ 24) →
    crcBytes p m = some (m.map fun b => wr p 0x030 (0x03000000 ||| BitVec.ofNat 32 b)) ∧
    crcCalc p m = some (wr p 0x030 0x02000000 ::
      ((m.map fun b => wr p 0x030 (0x03000000 ||| BitVec.ofNat 32 b)) ++
        [wr p 0x030 0x04000000, poll p 0x034 0x00000001 0x00000000]))) ∧
  (∀ (p : Params) (w : Word) (P I X : Value) (ri ro : Bool),
    crcWait p = [poll p 0x034 0x00000001 0x00000000] ∧
    crcSetcfg p w P I ri ro X =
      [wr p 0x004 w, wr p 0x008 ((if ri then 1 else 0) ||| ((if ro then 1 else 0) <<< 1)),
        wr p 0x010 (BitVec.ofNat 32 P.toNat), wr p 0x014 (BitVec.ofNat 32 (P.toNat >>> 32)),
        wr p 0x018 (BitVec.ofNat 32 I.toNat), wr p 0x01C (BitVec.ofNat 32 (I.toNat >>> 32)),
        wr p 0x020 (BitVec.ofNat 32 X.toNat), wr p 0x024 (BitVec.ofNat 32 (X.toNat >>> 32))] ∧
    crcSetop p X = [wr p 0x028 (BitVec.ofNat 32 X.toNat), wr p 0x02C (BitVec.ofNat 32 (X.toNat >>> 32))] ∧
    crcRdres p = [rd p 0x038, rd p 0x03C] ∧ crcRdstat p = [rd p 0x034]) ∧
  ∀ (p : Params) (v : Nat),
    assemble p .nop = some (wr p 0x030 0x00000000) ∧ assemble p .configure = some (wr p 0x030 0x01000000) ∧
    assemble p .start = some (wr p 0x030 0x02000000) ∧ assemble p .final = some (wr p 0x030 0x04000000) ∧
    assemble p .check = some (wr p 0x030 0x05000000) ∧ assemble p .clearErr = some (wr p 0x030 0x07000000) ∧
    (v < 2 ^ 24 → assemble p (.byte v) = some (wr p 0x030 (0x03000000 ||| BitVec.ofNat 32 v))) ∧
    (2 ^ 24 ≤ v → assemble p (.byte v) = none) ∧
    (v < 128 → assemble p (.reverse v) = some (wr p 0x030 (0x06000000 ||| BitVec.ofNat 32 v))) ∧
    (128 ≤ v → assemble p (.reverse v) = none)
end

