-- ==== Sys2Proof/Laws/State.lean ====
section
/-! SUPPORT. One lemma per field per update of the state, true by unfolding, so that no later proof unfolds a record
update. A lemma `op_field` says what `field` holds after the operation `op`. -/

namespace Sys2Proof.Machine

variable (s : State)

/-! ## raiseError -/

@[simp] theorem raiseError_params (cause : ErrorCause) : (raiseError cause s).params = s.params := rfl
@[simp] theorem raiseError_cfg (cause : ErrorCause) : (raiseError cause s).cfg = s.cfg := rfl
@[simp] theorem raiseError_operand (cause : ErrorCause) : (raiseError cause s).operand = s.operand := rfl
@[simp] theorem raiseError_status_busy (cause : ErrorCause) : (raiseError cause s).status.busy = s.status.busy := rfl
@[simp] theorem raiseError_status_configured (cause : ErrorCause) : (raiseError cause s).status.configured = s.status.configured := rfl
@[simp] theorem raiseError_status_isOpen (cause : ErrorCause) : (raiseError cause s).status.isOpen = false := rfl
@[simp] theorem raiseError_status_resultValid (cause : ErrorCause) : (raiseError cause s).status.resultValid = false := rfl
@[simp] theorem raiseError_status_error (cause : ErrorCause) : (raiseError cause s).status.error = true := rfl
@[simp] theorem raiseError_status_errCause (cause : ErrorCause) : (raiseError cause s).status.errCause = cause := rfl
@[simp] theorem raiseError_result (cause : ErrorCause) : (raiseError cause s).result = s.result := rfl
@[simp] theorem raiseError_act (cause : ErrorCause) : (raiseError cause s).act = s.act := rfl
@[simp] theorem raiseError_table (cause : ErrorCause) : (raiseError cause s).table = s.table := rfl
@[simp] theorem raiseError_crc (cause : ErrorCause) : (raiseError cause s).crc = s.crc := rfl
@[simp] theorem raiseError_latch (cause : ErrorCause) : (raiseError cause s).latch = s.latch := rfl
@[simp] theorem raiseError_host (cause : ErrorCause) : (raiseError cause s).host = s.host := rfl
@[simp] theorem raiseError_reply (cause : ErrorCause) : (raiseError cause s).reply = s.reply := rfl
@[simp] theorem raiseError_turns (cause : ErrorCause) : (raiseError cause s).turns = s.turns := rfl
@[simp] theorem raiseError_choices (cause : ErrorCause) : (raiseError cause s).choices = s.choices := rfl
@[simp] theorem raiseError_waited (cause : ErrorCause) : (raiseError cause s).waited = s.waited := rfl

/-! ## clearError -/

@[simp] theorem clearError_params : (clearError s).params = s.params := rfl
@[simp] theorem clearError_cfg : (clearError s).cfg = s.cfg := rfl
@[simp] theorem clearError_operand : (clearError s).operand = s.operand := rfl
@[simp] theorem clearError_status_busy : (clearError s).status.busy = s.status.busy := rfl
@[simp] theorem clearError_status_configured : (clearError s).status.configured = s.status.configured := rfl
@[simp] theorem clearError_status_isOpen : (clearError s).status.isOpen = s.status.isOpen := rfl
@[simp] theorem clearError_status_resultValid : (clearError s).status.resultValid = s.status.resultValid := rfl
@[simp] theorem clearError_status_error : (clearError s).status.error = false := rfl
@[simp] theorem clearError_status_errCause : (clearError s).status.errCause = .noError := rfl
@[simp] theorem clearError_result : (clearError s).result = s.result := rfl
@[simp] theorem clearError_act : (clearError s).act = s.act := rfl
@[simp] theorem clearError_table : (clearError s).table = s.table := rfl
@[simp] theorem clearError_crc : (clearError s).crc = s.crc := rfl
@[simp] theorem clearError_latch : (clearError s).latch = s.latch := rfl
@[simp] theorem clearError_host : (clearError s).host = s.host := rfl
@[simp] theorem clearError_reply : (clearError s).reply = s.reply := rfl
@[simp] theorem clearError_turns : (clearError s).turns = s.turns := rfl
@[simp] theorem clearError_choices : (clearError s).choices = s.choices := rfl
@[simp] theorem clearError_waited : (clearError s).waited = s.waited := rfl

/-! ## latchCommand -/

@[simp] theorem latchCommand_params (i : Instr) : (latchCommand i s).params = s.params := rfl
@[simp] theorem latchCommand_cfg (i : Instr) : (latchCommand i s).cfg = s.cfg := rfl
@[simp] theorem latchCommand_operand (i : Instr) : (latchCommand i s).operand = s.operand := rfl
@[simp] theorem latchCommand_status (i : Instr) : (latchCommand i s).status = s.status := rfl
@[simp] theorem latchCommand_result (i : Instr) : (latchCommand i s).result = s.result := rfl
@[simp] theorem latchCommand_act (i : Instr) : (latchCommand i s).act = s.act := rfl
@[simp] theorem latchCommand_table (i : Instr) : (latchCommand i s).table = s.table := rfl
@[simp] theorem latchCommand_crc (i : Instr) : (latchCommand i s).crc = s.crc := rfl
@[simp] theorem latchCommand_latch (i : Instr) :
    (latchCommand i s).latch = { s.latch with op := opField (encode i), arg := argField (encode i) } :=
  rfl
@[simp] theorem latchCommand_host (i : Instr) : (latchCommand i s).host = s.host := rfl
@[simp] theorem latchCommand_reply (i : Instr) : (latchCommand i s).reply = s.reply := rfl
@[simp] theorem latchCommand_turns (i : Instr) : (latchCommand i s).turns = s.turns := rfl
@[simp] theorem latchCommand_choices (i : Instr) : (latchCommand i s).choices = s.choices := rfl
@[simp] theorem latchCommand_waited (i : Instr) : (latchCommand i s).waited = s.waited := rfl

/-! ## beginBusy -/

@[simp] theorem beginBusy_params : (beginBusy s).params = s.params := rfl
@[simp] theorem beginBusy_cfg : (beginBusy s).cfg = s.cfg := rfl
@[simp] theorem beginBusy_operand : (beginBusy s).operand = s.operand := rfl
@[simp] theorem beginBusy_status_busy : (beginBusy s).status.busy = true := rfl
@[simp] theorem beginBusy_status_configured : (beginBusy s).status.configured = s.status.configured := rfl
@[simp] theorem beginBusy_status_isOpen : (beginBusy s).status.isOpen = s.status.isOpen := rfl
@[simp] theorem beginBusy_status_resultValid : (beginBusy s).status.resultValid = s.status.resultValid := rfl
@[simp] theorem beginBusy_status_error : (beginBusy s).status.error = s.status.error := rfl
@[simp] theorem beginBusy_status_errCause : (beginBusy s).status.errCause = s.status.errCause := rfl
@[simp] theorem beginBusy_result : (beginBusy s).result = s.result := rfl
@[simp] theorem beginBusy_act : (beginBusy s).act = s.act := rfl
@[simp] theorem beginBusy_table : (beginBusy s).table = s.table := rfl
@[simp] theorem beginBusy_crc : (beginBusy s).crc = s.crc := rfl
@[simp] theorem beginBusy_latch : (beginBusy s).latch = s.latch := rfl
@[simp] theorem beginBusy_host : (beginBusy s).host = s.host := rfl
@[simp] theorem beginBusy_reply : (beginBusy s).reply = s.reply := rfl
@[simp] theorem beginBusy_turns : (beginBusy s).turns = s.turns := rfl
@[simp] theorem beginBusy_choices : (beginBusy s).choices = s.choices := rfl
@[simp] theorem beginBusy_waited : (beginBusy s).waited = s.waited := rfl

/-! ## endBusy -/

@[simp] theorem endBusy_params : (endBusy s).params = s.params := rfl
@[simp] theorem endBusy_cfg : (endBusy s).cfg = s.cfg := rfl
@[simp] theorem endBusy_operand : (endBusy s).operand = s.operand := rfl
@[simp] theorem endBusy_status_busy : (endBusy s).status.busy = false := rfl
@[simp] theorem endBusy_status_configured : (endBusy s).status.configured = s.status.configured := rfl
@[simp] theorem endBusy_status_isOpen : (endBusy s).status.isOpen = s.status.isOpen := rfl
@[simp] theorem endBusy_status_resultValid : (endBusy s).status.resultValid = s.status.resultValid := rfl
@[simp] theorem endBusy_status_error : (endBusy s).status.error = s.status.error := rfl
@[simp] theorem endBusy_status_errCause : (endBusy s).status.errCause = s.status.errCause := rfl
@[simp] theorem endBusy_result : (endBusy s).result = s.result := rfl
@[simp] theorem endBusy_act : (endBusy s).act = s.act := rfl
@[simp] theorem endBusy_table : (endBusy s).table = s.table := rfl
@[simp] theorem endBusy_crc : (endBusy s).crc = s.crc := rfl
@[simp] theorem endBusy_latch : (endBusy s).latch = s.latch := rfl
@[simp] theorem endBusy_host : (endBusy s).host = s.host := rfl
@[simp] theorem endBusy_reply : (endBusy s).reply = s.reply := rfl
@[simp] theorem endBusy_turns : (endBusy s).turns = s.turns := rfl
@[simp] theorem endBusy_choices : (endBusy s).choices = s.choices := rfl
@[simp] theorem endBusy_waited : (endBusy s).waited = s.waited := rfl

/-! ## produceResult -/

@[simp] theorem produceResult_params (n : Nat) : (produceResult n s).params = s.params := rfl
@[simp] theorem produceResult_cfg (n : Nat) : (produceResult n s).cfg = s.cfg := rfl
@[simp] theorem produceResult_operand (n : Nat) : (produceResult n s).operand = s.operand := rfl
@[simp] theorem produceResult_status_busy (n : Nat) : (produceResult n s).status.busy = s.status.busy := rfl
@[simp] theorem produceResult_status_configured (n : Nat) : (produceResult n s).status.configured = s.status.configured := rfl
@[simp] theorem produceResult_status_isOpen (n : Nat) : (produceResult n s).status.isOpen = s.status.isOpen := rfl
@[simp] theorem produceResult_status_resultValid (n : Nat) : (produceResult n s).status.resultValid = true := rfl
@[simp] theorem produceResult_status_error (n : Nat) : (produceResult n s).status.error = s.status.error := rfl
@[simp] theorem produceResult_status_errCause (n : Nat) : (produceResult n s).status.errCause = s.status.errCause := rfl
@[simp] theorem produceResult_result (n : Nat) : (produceResult n s).result = toValue n := rfl
@[simp] theorem produceResult_act (n : Nat) : (produceResult n s).act = s.act := rfl
@[simp] theorem produceResult_table (n : Nat) : (produceResult n s).table = s.table := rfl
@[simp] theorem produceResult_crc (n : Nat) : (produceResult n s).crc = s.crc := rfl
@[simp] theorem produceResult_latch (n : Nat) : (produceResult n s).latch = s.latch := rfl
@[simp] theorem produceResult_host (n : Nat) : (produceResult n s).host = s.host := rfl
@[simp] theorem produceResult_reply (n : Nat) : (produceResult n s).reply = s.reply := rfl
@[simp] theorem produceResult_turns (n : Nat) : (produceResult n s).turns = s.turns := rfl
@[simp] theorem produceResult_choices (n : Nat) : (produceResult n s).choices = s.choices := rfl
@[simp] theorem produceResult_waited (n : Nat) : (produceResult n s).waited = s.waited := rfl

/-! ## finishAccess -/

@[simp] theorem finishAccess_params (r : Reply) : (finishAccess r s).params = s.params := rfl
@[simp] theorem finishAccess_cfg (r : Reply) : (finishAccess r s).cfg = s.cfg := rfl
@[simp] theorem finishAccess_operand (r : Reply) : (finishAccess r s).operand = s.operand := rfl
@[simp] theorem finishAccess_status (r : Reply) : (finishAccess r s).status = s.status := rfl
@[simp] theorem finishAccess_result (r : Reply) : (finishAccess r s).result = s.result := rfl
@[simp] theorem finishAccess_act (r : Reply) : (finishAccess r s).act = s.act := rfl
@[simp] theorem finishAccess_table (r : Reply) : (finishAccess r s).table = s.table := rfl
@[simp] theorem finishAccess_crc (r : Reply) : (finishAccess r s).crc = s.crc := rfl
@[simp] theorem finishAccess_latch (r : Reply) : (finishAccess r s).latch = s.latch := rfl
@[simp] theorem finishAccess_host (r : Reply) : (finishAccess r s).host = s.host.tail := rfl
@[simp] theorem finishAccess_reply (r : Reply) : (finishAccess r s).reply = r := rfl
@[simp] theorem finishAccess_turns (r : Reply) : (finishAccess r s).turns = s.turns := rfl
@[simp] theorem finishAccess_choices (r : Reply) : (finishAccess r s).choices = s.choices := rfl
@[simp] theorem finishAccess_waited (r : Reply) : (finishAccess r s).waited = s.waited := rfl

/-! ## queueCommand -/

@[simp] theorem queueCommand_params (w : Word) : (queueCommand w s).params = s.params := rfl
@[simp] theorem queueCommand_cfg (w : Word) : (queueCommand w s).cfg = s.cfg := rfl
@[simp] theorem queueCommand_operand (w : Word) : (queueCommand w s).operand = s.operand := rfl
@[simp] theorem queueCommand_status_busy (w : Word) : (queueCommand w s).status.busy = false := rfl
@[simp] theorem queueCommand_status_configured (w : Word) : (queueCommand w s).status.configured = s.status.configured := rfl
@[simp] theorem queueCommand_status_isOpen (w : Word) : (queueCommand w s).status.isOpen = s.status.isOpen := rfl
@[simp] theorem queueCommand_status_resultValid (w : Word) : (queueCommand w s).status.resultValid = s.status.resultValid := rfl
@[simp] theorem queueCommand_status_error (w : Word) : (queueCommand w s).status.error = s.status.error := rfl
@[simp] theorem queueCommand_status_errCause (w : Word) : (queueCommand w s).status.errCause = s.status.errCause := rfl
@[simp] theorem queueCommand_result (w : Word) : (queueCommand w s).result = s.result := rfl
@[simp] theorem queueCommand_act (w : Word) : (queueCommand w s).act = s.act := rfl
@[simp] theorem queueCommand_table (w : Word) : (queueCommand w s).table = s.table := rfl
@[simp] theorem queueCommand_crc (w : Word) : (queueCommand w s).crc = s.crc := rfl
@[simp] theorem queueCommand_latch (w : Word) : (queueCommand w s).latch = s.latch := rfl
@[simp] theorem queueCommand_host (w : Word) : (queueCommand w s).host = issue s.params w :: s.host := rfl
@[simp] theorem queueCommand_reply (w : Word) : (queueCommand w s).reply = s.reply := rfl
@[simp] theorem queueCommand_turns (w : Word) : (queueCommand w s).turns = s.turns := rfl
@[simp] theorem queueCommand_choices (w : Word) : (queueCommand w s).choices = s.choices := rfl
@[simp] theorem queueCommand_waited (w : Word) : (queueCommand w s).waited = s.waited := rfl

/-! ## snapshotOperand -/

@[simp] theorem snapshotOperand_params : (snapshotOperand s).params = s.params := rfl
@[simp] theorem snapshotOperand_cfg : (snapshotOperand s).cfg = s.cfg := rfl
@[simp] theorem snapshotOperand_operand : (snapshotOperand s).operand = s.operand := rfl
@[simp] theorem snapshotOperand_status : (snapshotOperand s).status = s.status := rfl
@[simp] theorem snapshotOperand_result : (snapshotOperand s).result = s.result := rfl
@[simp] theorem snapshotOperand_act : (snapshotOperand s).act = s.act := rfl
@[simp] theorem snapshotOperand_table : (snapshotOperand s).table = s.table := rfl
@[simp] theorem snapshotOperand_crc : (snapshotOperand s).crc = s.crc := rfl
@[simp] theorem snapshotOperand_latch : (snapshotOperand s).latch = { s.latch with operand := s.operand } := rfl
@[simp] theorem snapshotOperand_host : (snapshotOperand s).host = s.host := rfl
@[simp] theorem snapshotOperand_reply : (snapshotOperand s).reply = s.reply := rfl
@[simp] theorem snapshotOperand_turns : (snapshotOperand s).turns = s.turns := rfl
@[simp] theorem snapshotOperand_choices : (snapshotOperand s).choices = s.choices := rfl
@[simp] theorem snapshotOperand_waited : (snapshotOperand s).waited = s.waited := rfl

/-! ## reverseCompletion -/

@[simp] theorem reverseCompletion_params : (reverseCompletion s).params = s.params := rfl
@[simp] theorem reverseCompletion_cfg : (reverseCompletion s).cfg = s.cfg := rfl
@[simp] theorem reverseCompletion_operand : (reverseCompletion s).operand = s.operand := rfl
@[simp] theorem reverseCompletion_status_busy : (reverseCompletion s).status.busy = s.status.busy := rfl
@[simp] theorem reverseCompletion_status_configured : (reverseCompletion s).status.configured = s.status.configured := rfl
@[simp] theorem reverseCompletion_status_isOpen : (reverseCompletion s).status.isOpen = s.status.isOpen := rfl
@[simp] theorem reverseCompletion_status_resultValid : (reverseCompletion s).status.resultValid = true := rfl
@[simp] theorem reverseCompletion_status_error : (reverseCompletion s).status.error = s.status.error := rfl
@[simp] theorem reverseCompletion_status_errCause : (reverseCompletion s).status.errCause = s.status.errCause := rfl
@[simp] theorem reverseCompletion_result :
    (reverseCompletion s).result = toValue (reversedBits s.latch.operand.toNat (nbitsField s.latch.arg).toNat) :=
  rfl
@[simp] theorem reverseCompletion_act : (reverseCompletion s).act = s.act := rfl
@[simp] theorem reverseCompletion_table : (reverseCompletion s).table = s.table := rfl
@[simp] theorem reverseCompletion_crc : (reverseCompletion s).crc = s.crc := rfl
@[simp] theorem reverseCompletion_latch : (reverseCompletion s).latch = s.latch := rfl
@[simp] theorem reverseCompletion_host : (reverseCompletion s).host = s.host := rfl
@[simp] theorem reverseCompletion_reply : (reverseCompletion s).reply = s.reply := rfl
@[simp] theorem reverseCompletion_turns : (reverseCompletion s).turns = s.turns := rfl
@[simp] theorem reverseCompletion_choices : (reverseCompletion s).choices = s.choices := rfl
@[simp] theorem reverseCompletion_waited : (reverseCompletion s).waited = s.waited := rfl

/-! ## configureAcceptance -/

@[simp] theorem configureAcceptance_params : (configureAcceptance s).params = s.params := rfl
@[simp] theorem configureAcceptance_cfg : (configureAcceptance s).cfg = s.cfg := rfl
@[simp] theorem configureAcceptance_operand : (configureAcceptance s).operand = s.operand := rfl
@[simp] theorem configureAcceptance_status_busy : (configureAcceptance s).status.busy = s.status.busy := rfl
@[simp] theorem configureAcceptance_status_configured : (configureAcceptance s).status.configured = false := rfl
@[simp] theorem configureAcceptance_status_isOpen : (configureAcceptance s).status.isOpen = s.status.isOpen := rfl
@[simp] theorem configureAcceptance_status_resultValid : (configureAcceptance s).status.resultValid = false := rfl
@[simp] theorem configureAcceptance_status_error : (configureAcceptance s).status.error = s.status.error := rfl
@[simp] theorem configureAcceptance_status_errCause : (configureAcceptance s).status.errCause = s.status.errCause := rfl
@[simp] theorem configureAcceptance_result : (configureAcceptance s).result = s.result := rfl
@[simp] theorem configureAcceptance_act : (configureAcceptance s).act = s.act := rfl
@[simp] theorem configureAcceptance_table : (configureAcceptance s).table = s.table := rfl
@[simp] theorem configureAcceptance_crc : (configureAcceptance s).crc = s.crc := rfl
@[simp] theorem configureAcceptance_latch : (configureAcceptance s).latch = { s.latch with cfg := s.cfg } := rfl
@[simp] theorem configureAcceptance_host : (configureAcceptance s).host = s.host := rfl
@[simp] theorem configureAcceptance_reply : (configureAcceptance s).reply = s.reply := rfl
@[simp] theorem configureAcceptance_turns : (configureAcceptance s).turns = s.turns := rfl
@[simp] theorem configureAcceptance_choices : (configureAcceptance s).choices = s.choices := rfl
@[simp] theorem configureAcceptance_waited : (configureAcceptance s).waited = s.waited := rfl

/-! ## configureCompletion -/

@[simp] theorem configureCompletion_params : (configureCompletion s).params = s.params := rfl
@[simp] theorem configureCompletion_cfg : (configureCompletion s).cfg = s.cfg := rfl
@[simp] theorem configureCompletion_operand : (configureCompletion s).operand = s.operand := rfl
@[simp] theorem configureCompletion_status_busy : (configureCompletion s).status.busy = s.status.busy := rfl
@[simp] theorem configureCompletion_status_configured : (configureCompletion s).status.configured = true := rfl
@[simp] theorem configureCompletion_status_isOpen : (configureCompletion s).status.isOpen = s.status.isOpen := rfl
@[simp] theorem configureCompletion_status_resultValid : (configureCompletion s).status.resultValid = s.status.resultValid := rfl
@[simp] theorem configureCompletion_status_error : (configureCompletion s).status.error = s.status.error := rfl
@[simp] theorem configureCompletion_status_errCause : (configureCompletion s).status.errCause = s.status.errCause := rfl
@[simp] theorem configureCompletion_result : (configureCompletion s).result = s.result := rfl
@[simp] theorem configureCompletion_act : (configureCompletion s).act = s.latch.cfg.stored := rfl
@[simp] theorem configureCompletion_table :
    (configureCompletion s).table = buildTable (normalise s.latch.cfg.numbers) :=
  rfl
@[simp] theorem configureCompletion_crc : (configureCompletion s).crc = s.crc := rfl
@[simp] theorem configureCompletion_latch : (configureCompletion s).latch = s.latch := rfl
@[simp] theorem configureCompletion_host : (configureCompletion s).host = s.host := rfl
@[simp] theorem configureCompletion_reply : (configureCompletion s).reply = s.reply := rfl
@[simp] theorem configureCompletion_turns : (configureCompletion s).turns = s.turns := rfl
@[simp] theorem configureCompletion_choices : (configureCompletion s).choices = s.choices := rfl
@[simp] theorem configureCompletion_waited : (configureCompletion s).waited = s.waited := rfl

/-! ## startCompletion -/

@[simp] theorem startCompletion_params : (startCompletion s).params = s.params := rfl
@[simp] theorem startCompletion_cfg : (startCompletion s).cfg = s.cfg := rfl
@[simp] theorem startCompletion_operand : (startCompletion s).operand = s.operand := rfl
@[simp] theorem startCompletion_status_busy : (startCompletion s).status.busy = s.status.busy := rfl
@[simp] theorem startCompletion_status_configured : (startCompletion s).status.configured = s.status.configured := rfl
@[simp] theorem startCompletion_status_isOpen : (startCompletion s).status.isOpen = true := rfl
@[simp] theorem startCompletion_status_resultValid : (startCompletion s).status.resultValid = false := rfl
@[simp] theorem startCompletion_status_error : (startCompletion s).status.error = s.status.error := rfl
@[simp] theorem startCompletion_status_errCause : (startCompletion s).status.errCause = s.status.errCause := rfl
@[simp] theorem startCompletion_result : (startCompletion s).result = s.result := rfl
@[simp] theorem startCompletion_act : (startCompletion s).act = s.act := rfl
@[simp] theorem startCompletion_table : (startCompletion s).table = s.table := rfl
@[simp] theorem startCompletion_crc : (startCompletion s).crc = s.act.init := rfl
@[simp] theorem startCompletion_latch : (startCompletion s).latch = s.latch := rfl
@[simp] theorem startCompletion_host : (startCompletion s).host = s.host := rfl
@[simp] theorem startCompletion_reply : (startCompletion s).reply = s.reply := rfl
@[simp] theorem startCompletion_turns : (startCompletion s).turns = s.turns := rfl
@[simp] theorem startCompletion_choices : (startCompletion s).choices = s.choices := rfl
@[simp] theorem startCompletion_waited : (startCompletion s).waited = s.waited := rfl

/-! ## byteCompletion -/

@[simp] theorem byteCompletion_params : (byteCompletion s).params = s.params := rfl
@[simp] theorem byteCompletion_cfg : (byteCompletion s).cfg = s.cfg := rfl
@[simp] theorem byteCompletion_operand : (byteCompletion s).operand = s.operand := rfl
@[simp] theorem byteCompletion_status : (byteCompletion s).status = s.status := rfl
@[simp] theorem byteCompletion_result : (byteCompletion s).result = s.result := rfl
@[simp] theorem byteCompletion_act : (byteCompletion s).act = s.act := rfl
@[simp] theorem byteCompletion_table : (byteCompletion s).table = s.table := rfl
@[simp] theorem byteCompletion_crc :
    (byteCompletion s).crc = toValue (byteStep s.act.numbers (tableNumbers s.table) s.crc.toNat (latchedByte s)) :=
  rfl
@[simp] theorem byteCompletion_latch : (byteCompletion s).latch = s.latch := rfl
@[simp] theorem byteCompletion_host : (byteCompletion s).host = s.host := rfl
@[simp] theorem byteCompletion_reply : (byteCompletion s).reply = s.reply := rfl
@[simp] theorem byteCompletion_turns : (byteCompletion s).turns = s.turns := rfl
@[simp] theorem byteCompletion_choices : (byteCompletion s).choices = s.choices := rfl
@[simp] theorem byteCompletion_waited : (byteCompletion s).waited = s.waited := rfl

/-! ## closeMessage -/

@[simp] theorem closeMessage_params : (closeMessage s).params = s.params := rfl
@[simp] theorem closeMessage_cfg : (closeMessage s).cfg = s.cfg := rfl
@[simp] theorem closeMessage_operand : (closeMessage s).operand = s.operand := rfl
@[simp] theorem closeMessage_status_busy : (closeMessage s).status.busy = s.status.busy := rfl
@[simp] theorem closeMessage_status_configured : (closeMessage s).status.configured = s.status.configured := rfl
@[simp] theorem closeMessage_status_isOpen : (closeMessage s).status.isOpen = false := rfl
@[simp] theorem closeMessage_status_resultValid : (closeMessage s).status.resultValid = s.status.resultValid := rfl
@[simp] theorem closeMessage_status_error : (closeMessage s).status.error = s.status.error := rfl
@[simp] theorem closeMessage_status_errCause : (closeMessage s).status.errCause = s.status.errCause := rfl
@[simp] theorem closeMessage_result : (closeMessage s).result = s.result := rfl
@[simp] theorem closeMessage_act : (closeMessage s).act = s.act := rfl
@[simp] theorem closeMessage_table : (closeMessage s).table = s.table := rfl
@[simp] theorem closeMessage_crc : (closeMessage s).crc = s.crc := rfl
@[simp] theorem closeMessage_latch : (closeMessage s).latch = s.latch := rfl
@[simp] theorem closeMessage_host : (closeMessage s).host = s.host := rfl
@[simp] theorem closeMessage_reply : (closeMessage s).reply = s.reply := rfl
@[simp] theorem closeMessage_turns : (closeMessage s).turns = s.turns := rfl
@[simp] theorem closeMessage_choices : (closeMessage s).choices = s.choices := rfl
@[simp] theorem closeMessage_waited : (closeMessage s).waited = s.waited := rfl

/-! ## finalCompletion -/

@[simp] theorem finalCompletion_params : (finalCompletion s).params = s.params := rfl
@[simp] theorem finalCompletion_cfg : (finalCompletion s).cfg = s.cfg := rfl
@[simp] theorem finalCompletion_operand : (finalCompletion s).operand = s.operand := rfl
@[simp] theorem finalCompletion_status_busy : (finalCompletion s).status.busy = s.status.busy := rfl
@[simp] theorem finalCompletion_status_configured : (finalCompletion s).status.configured = s.status.configured := rfl
@[simp] theorem finalCompletion_status_isOpen : (finalCompletion s).status.isOpen = false := rfl
@[simp] theorem finalCompletion_status_resultValid : (finalCompletion s).status.resultValid = true := rfl
@[simp] theorem finalCompletion_status_error : (finalCompletion s).status.error = s.status.error := rfl
@[simp] theorem finalCompletion_status_errCause : (finalCompletion s).status.errCause = s.status.errCause := rfl
@[simp] theorem finalCompletion_result :
    (finalCompletion s).result = toValue (finalize s.act.numbers s.crc.toNat) :=
  rfl
@[simp] theorem finalCompletion_act : (finalCompletion s).act = s.act := rfl
@[simp] theorem finalCompletion_table : (finalCompletion s).table = s.table := rfl
@[simp] theorem finalCompletion_crc : (finalCompletion s).crc = s.crc := rfl
@[simp] theorem finalCompletion_latch : (finalCompletion s).latch = s.latch := rfl
@[simp] theorem finalCompletion_host : (finalCompletion s).host = s.host := rfl
@[simp] theorem finalCompletion_reply : (finalCompletion s).reply = s.reply := rfl
@[simp] theorem finalCompletion_turns : (finalCompletion s).turns = s.turns := rfl
@[simp] theorem finalCompletion_choices : (finalCompletion s).choices = s.choices := rfl
@[simp] theorem finalCompletion_waited : (finalCompletion s).waited = s.waited := rfl

/-! ## checkCompletion -/

@[simp] theorem checkCompletion_params : (checkCompletion s).params = s.params := rfl
@[simp] theorem checkCompletion_cfg : (checkCompletion s).cfg = s.cfg := rfl
@[simp] theorem checkCompletion_operand : (checkCompletion s).operand = s.operand := rfl
@[simp] theorem checkCompletion_status_busy : (checkCompletion s).status.busy = s.status.busy := rfl
@[simp] theorem checkCompletion_status_configured : (checkCompletion s).status.configured = s.status.configured := rfl
@[simp] theorem checkCompletion_status_isOpen : (checkCompletion s).status.isOpen = s.status.isOpen := rfl
@[simp] theorem checkCompletion_status_resultValid : (checkCompletion s).status.resultValid = true := rfl
@[simp] theorem checkCompletion_status_error : (checkCompletion s).status.error = s.status.error := rfl
@[simp] theorem checkCompletion_status_errCause : (checkCompletion s).status.errCause = s.status.errCause := rfl
@[simp] theorem checkCompletion_result :
    (checkCompletion s).result = toValue (calculate s.act.numbers (tableNumbers s.table) checkMessage) :=
  rfl
@[simp] theorem checkCompletion_act : (checkCompletion s).act = s.act := rfl
@[simp] theorem checkCompletion_table : (checkCompletion s).table = s.table := rfl
@[simp] theorem checkCompletion_crc : (checkCompletion s).crc = s.crc := rfl
@[simp] theorem checkCompletion_latch : (checkCompletion s).latch = s.latch := rfl
@[simp] theorem checkCompletion_host : (checkCompletion s).host = s.host := rfl
@[simp] theorem checkCompletion_reply : (checkCompletion s).reply = s.reply := rfl
@[simp] theorem checkCompletion_turns : (checkCompletion s).turns = s.turns := rfl
@[simp] theorem checkCompletion_choices : (checkCompletion s).choices = s.choices := rfl
@[simp] theorem checkCompletion_waited : (checkCompletion s).waited = s.waited := rfl

/-! ## spendTurn: only the model's own choice fields move -/

@[simp] theorem spendTurn_params : (spendTurn s).params = s.params := rfl
@[simp] theorem spendTurn_cfg : (spendTurn s).cfg = s.cfg := rfl
@[simp] theorem spendTurn_operand : (spendTurn s).operand = s.operand := rfl
@[simp] theorem spendTurn_status : (spendTurn s).status = s.status := rfl
@[simp] theorem spendTurn_result : (spendTurn s).result = s.result := rfl
@[simp] theorem spendTurn_act : (spendTurn s).act = s.act := rfl
@[simp] theorem spendTurn_table : (spendTurn s).table = s.table := rfl
@[simp] theorem spendTurn_crc : (spendTurn s).crc = s.crc := rfl
@[simp] theorem spendTurn_latch : (spendTurn s).latch = s.latch := rfl
@[simp] theorem spendTurn_host : (spendTurn s).host = s.host := rfl
@[simp] theorem spendTurn_reply : (spendTurn s).reply = s.reply := rfl

/-! ## writeReg: only the staging configuration and OPERAND can move -/

@[simp] theorem writeReg_params (r : Reg) (d : Word) : (writeReg r d s).params = s.params := by cases r <;> rfl
@[simp] theorem writeReg_status (r : Reg) (d : Word) : (writeReg r d s).status = s.status := by cases r <;> rfl
@[simp] theorem writeReg_result (r : Reg) (d : Word) : (writeReg r d s).result = s.result := by cases r <;> rfl
@[simp] theorem writeReg_act (r : Reg) (d : Word) : (writeReg r d s).act = s.act := by cases r <;> rfl
@[simp] theorem writeReg_table (r : Reg) (d : Word) : (writeReg r d s).table = s.table := by cases r <;> rfl
@[simp] theorem writeReg_crc (r : Reg) (d : Word) : (writeReg r d s).crc = s.crc := by cases r <;> rfl
@[simp] theorem writeReg_latch (r : Reg) (d : Word) : (writeReg r d s).latch = s.latch := by cases r <;> rfl
@[simp] theorem writeReg_host (r : Reg) (d : Word) : (writeReg r d s).host = s.host := by cases r <;> rfl
@[simp] theorem writeReg_reply (r : Reg) (d : Word) : (writeReg r d s).reply = s.reply := by cases r <;> rfl
@[simp] theorem writeReg_turns (r : Reg) (d : Word) : (writeReg r d s).turns = s.turns := by cases r <;> rfl
@[simp] theorem writeReg_choices (r : Reg) (d : Word) : (writeReg r d s).choices = s.choices := by cases r <;> rfl
@[simp] theorem writeReg_waited (r : Reg) (d : Word) : (writeReg r d s).waited = s.waited := by cases r <;> rfl

end Sys2Proof.Machine
end

