-- ==== Sys2Proof/Laws/Ops.lean ====
section
/-! SUPPORT. What each shared operation can do: the fields of a word, the first failing check, the acceptance, the
completion, and exec as one runCommand. Later proofs cite these instead of unfolding the operations. -/

namespace Sys2Proof

/-! ## The fields of a word -/

@[simp] theorem opField_joinFields (op : BitVec 8) (arg : BitVec 24) : opField (joinFields op arg) = op := by
  ext k hk
  simp only [opField, joinFields, BitVec.getElem_extractLsb']
  rw [BitVec.getLsbD_append, if_neg (by omega)]
  simp [BitVec.getLsbD_eq_getElem hk]

@[simp] theorem argField_joinFields (op : BitVec 8) (arg : BitVec 24) : argField (joinFields op arg) = arg := by
  ext k hk
  simp only [argField, joinFields, BitVec.getElem_extractLsb']
  rw [BitVec.getLsbD_append, if_pos (by omega)]
  simp [BitVec.getLsbD_eq_getElem hk]

@[simp] theorem joinFields_fields (w : Word) : joinFields (opField w) (argField w) = w := by
  refine BitVec.eq_of_getLsbD_eq fun k hk => ?_
  simp only [opField, argField, joinFields]
  rw [BitVec.getLsbD_append]
  split
  · rename_i h
    simp [h]
  · rename_i h
    simp only [BitVec.getLsbD_extractLsb']
    rw [show 24 + (k - 24) = k by omega]
    simp [show k - 24 < 8 by omega]

@[simp] theorem opField_encode (i : Instr) : opField (encode i) = i.opcode := opField_joinFields _ _

@[simp] theorem argField_encode (i : Instr) : argField (encode i) = i.argument := argField_joinFields _ _

namespace Machine

/-! ## Checks -/

/-- The first failing check decides; a list whose checks all pass has none. -/
theorem firstFailing_eq_none (l : List (Bool × ErrorCause)) :
    firstFailing l = none ↔ ∀ c ∈ l, c.1 = false := by
  induction l with
  | nil => simp [firstFailing]
  | cons c rest ih =>
    obtain ⟨b, cause⟩ := c
    cases b <;> simp [firstFailing, ih]

/-- A recorded cause is one the list names. -/
theorem firstFailing_mem {l : List (Bool × ErrorCause)} {cause : ErrorCause} (h : firstFailing l = some cause) :
    (true, cause) ∈ l := by
  induction l with
  | nil => simp [firstFailing] at h
  | cons c rest ih =>
    obtain ⟨b, k⟩ := c
    cases b <;> simp [firstFailing] at h
    · exact List.mem_cons_of_mem _ (ih h)
    · simp [h]

/-! ## The latch -/

@[simp] theorem latchedWord_latchCommand (i : Instr) (s : State) : latchedWord (latchCommand i s) = encode i :=
  joinFields_fields _

theorem latchedWord_congr {s t : State} (ho : s.latch.op = t.latch.op) (ha : s.latch.arg = t.latch.arg) :
    latchedWord s = latchedWord t := by
  simp [latchedWord, ho, ha]

/-! ## exec as one operation -/

/-- The acceptance effects of a command (R101: none but for CONFIGURE and REVERSE). -/
def acceptanceEffects (i : Instr) : State → State :=
  match i with
  | .nop => noEffect
  | .configure => configureAcceptance
  | .start => noEffect
  | .byte _ => noEffect
  | .final => noEffect
  | .check => noEffect
  | .reverse _ => snapshotOperand
  | .clearErr => noEffect

/-- The completion effects of a command (R103). -/
def completionEffects (i : Instr) : State → State :=
  match i with
  | .nop => noEffect
  | .configure => configureCompletion
  | .start => startCompletion
  | .byte _ => byteCompletion
  | .final => finalCompletion
  | .check => checkCompletion
  | .reverse _ => reverseCompletion
  | .clearErr => clearError

/-- Every meaning is the one shared operation, over the command's own checks and effects. -/
theorem exec_eq_runCommand (i : Instr) (s : State) :
    exec i s = runCommand i (commandChecks i) (acceptanceEffects i) (completionEffects i) s := by
  cases i <;> rfl

/-- With BUSY = 0, exec is the acceptance step. -/
theorem exec_idle {s : State} (i : Instr) (h : s.status.busy = false) :
    exec i s = .next (acceptCommand i (commandChecks i) (acceptanceEffects i) s) := by
  simp [exec_eq_runCommand, runCommand, h]

/-- With BUSY = 1 and i in the latch, exec is the completion step. -/
theorem exec_inProgress {s : State} {i : Instr} (h : InProgress s i) :
    exec i s = .next (completeCommand (completionEffects i) s) := by
  simp [exec_eq_runCommand, runCommand, h.1, h.2]

/-- With BUSY = 1 and another word in the latch, the write is held and nothing changes. -/
theorem exec_held {s : State} {i : Instr} (hb : s.status.busy = true) (hl : latchedWord s ≠ encode i) :
    exec i s = .next s := by
  simp [exec_eq_runCommand, runCommand, hb, hl]

/-- What exec can do: it always answers a next state, the acceptance, the completion, or (held) the same state. -/
theorem exec_cases {i : Instr} {s t : State} (h : exec i s = .next t) :
    (s.status.busy = false ∧ t = acceptCommand i (commandChecks i) (acceptanceEffects i) s) ∨
    (InProgress s i ∧ t = completeCommand (completionEffects i) s) ∨
    (s.status.busy = true ∧ latchedWord s ≠ encode i ∧ t = s) := by
  cases hb : s.status.busy
  · rw [exec_idle i hb] at h
    exact .inl ⟨rfl, by simpa using h.symm⟩
  · by_cases hl : latchedWord s = encode i
    · rw [exec_inProgress ⟨hb, hl⟩] at h
      exact .inr (.inl ⟨⟨hb, hl⟩, by simpa using h.symm⟩)
    · rw [exec_held hb hl] at h
      exact .inr (.inr ⟨rfl, hl, by simpa using h.symm⟩)

/-- exec always answers a next state. -/
theorem exec_next (i : Instr) (s : State) : ∃ t, exec i s = .next t := by
  rw [exec_eq_runCommand, runCommand]
  split
  · split <;> exact ⟨_, rfl⟩
  · exact ⟨_, rfl⟩

/-- What an acceptance can do: discard, the error path, or the acceptance effects with the command latched. -/
theorem acceptCommand_cases (i : Instr) (s : State) :
    ((s.status.error = true ∧ i ≠ .clearErr) ∧
      acceptCommand i (commandChecks i) (acceptanceEffects i) s = s) ∨
    ((s.status.error = false ∨ i = .clearErr) ∧ ∃ cause, commandChecks i s = some cause ∧
      acceptCommand i (commandChecks i) (acceptanceEffects i) s = raiseError cause s) ∨
    ((s.status.error = false ∨ i = .clearErr) ∧ commandChecks i s = none ∧
      acceptCommand i (commandChecks i) (acceptanceEffects i) s =
        beginBusy (acceptanceEffects i (latchCommand i s))) := by
  unfold acceptCommand
  by_cases hd : s.status.error = true ∧ i ≠ .clearErr
  · exact .inl ⟨hd, by simp [hd]⟩
  · have hor : s.status.error = false ∨ i = .clearErr := by
      by_cases hi : i = .clearErr
      · exact .inr hi
      · exact .inl (by simpa only [hi, ne_eq, not_false_eq_true, and_true, Bool.not_eq_true] using hd)
    rw [if_neg hd]
    cases hc : commandChecks i s with
    | none => exact .inr (.inr ⟨hor, rfl, rfl⟩)
    | some cause => exact .inr (.inl ⟨hor, cause, rfl, rfl⟩)

/-- CLEAR_ERR and NOP have no checks; every recorded cause of a check is a real cause. -/
theorem commandChecks_ne_noError {i : Instr} {s : State} {cause : ErrorCause} (h : commandChecks i s = some cause) :
    cause ≠ .noError := by
  rintro rfl
  cases i <;> simp only [commandChecks, configureChecks, validate, needsNoMessage, needsMessage, byteChecks,
    reverseChecks, reduceCtorEq] at h
  · split at h
    · simp at h
    · simpa using firstFailing_mem h
  all_goals simpa using firstFailing_mem h

end Machine

end Sys2Proof
end

