-- ==== Sys2Proof/Laws/Crc.lean ====
section
/-! SUPPORT. The bits, the bounds and the linearity of the engine's functions, and the entries of a built table. -/

namespace Sys2Proof.Machine

/-! ## Bit reversal -/

/-- After the first k passes of R120's loop. -/
theorem testBit_placeReversedBits (v n k j : Nat) (hk : k ≤ n) :
    ((List.range k).foldl (placeReversedBit v n) 0).testBit j =
      (decide (j < n) && decide (n - 1 - j < k) && v.testBit (n - 1 - j)) := by
  induction k with
  | zero => simp
  | succ k ih =>
    have ih := ih (by omega)
    rw [List.range_succ, List.foldl_append]
    simp only [List.foldl_cons, List.foldl_nil, placeReversedBit]
    split
    · rename_i hb
      rw [Nat.testBit_or, ih, Nat.one_shiftLeft, Nat.testBit_two_pow]
      by_cases h1 : n - 1 - k = j
      · have h2 : n - 1 - j = k := by omega
        have h3 : j < n := by omega
        simp [*]
      · by_cases hj : j < n
        · have h2 : (n - 1 - j < k + 1) ↔ (n - 1 - j < k) := by omega
          simp [h1, h2]
        · simp [hj, h1]
    · rename_i hb
      rw [ih]
      by_cases h1 : n - 1 - j = k
      · simp [h1, hb]
      · have h2 : (n - 1 - j < k + 1) ↔ (n - 1 - j < k) := by omega
        simp [h2]

/-- Every bit of a reversed value, whatever the value (R120). -/
theorem testBit_reversedBits (v n j : Nat) :
    (reversedBits v n).testBit j = (decide (j < n) && v.testBit (n - 1 - j)) := by
  rw [reversedBits, testBit_placeReversedBits v n n j le_rfl]
  by_cases h : j < n
  · simp [h]
    intro
    omega
  · simp [h]

/-! ## Bit steps -/

/-- A bit step of the non-reflected loop as one XOR (R134). -/
theorem bitStepN_eq (w p r : Nat) :
    bitStepN w p r = ((r <<< 1) % 2 ^ w) ^^^ (if r.testBit (w - 1) then p else 0) := by
  unfold bitStepN
  split <;> simp

/-- A bit step of the reflected loop as one XOR (R135). -/
theorem bitStepR_eq (p r : Nat) : bitStepR p r = (r >>> 1) ^^^ (if r.testBit 0 then p else 0) := by
  unfold bitStepR
  split <;> simp

/-- A non-reflected bit step stays below 2^W (R134). -/
theorem bitStepN_lt {w p : Nat} (r : Nat) (hp : p < 2 ^ w) : bitStepN w p r < 2 ^ w := by
  rw [bitStepN_eq]
  refine Nat.xor_lt_two_pow (Nat.mod_lt _ (by positivity)) ?_
  split
  · exact hp
  · positivity

/-- A reflected bit step stays below 2^W (R135). -/
theorem bitStepR_lt {w p r : Nat} (hp : p < 2 ^ w) (hr : r < 2 ^ w) : bitStepR p r < 2 ^ w := by
  rw [bitStepR_eq]
  refine Nat.xor_lt_two_pow (lt_of_le_of_lt ?_ hr) ?_
  · rw [Nat.shiftRight_eq_div_pow]
    exact Nat.div_le_self _ _
  · split
    · exact hp
    · positivity

/-! ## Values and tables -/

/-- A number that fits in 64 bits is what the register holds. -/
theorem toNat_toValue {n w : Nat} (h : n < 2 ^ w) (hw : w ≤ 64) : (toValue n).toNat = n := by
  simp only [toValue, BitVec.toNat_ofNat]
  exact Nat.mod_eq_of_lt (lt_of_lt_of_le h (Nat.pow_le_pow_right (by decide) hw))

/-- Every entry of a built table (R137). -/
theorem tableEntry_buildTable (v : Variant) {b : Nat} (h : b < 256) :
    tableEntry (buildTable v) b = toValue (genTable v.width v.poly v.reflectIn b) := by
  simp [tableEntry, buildTable, Nat.mod_eq_of_lt h]

end Sys2Proof.Machine
end

