-- ==== Sys2Proof/Laws/PerInstr.lean ====
section
/-! SUPPORT. The family FieldLayout, one lemma per constructor of Instr: the two fields of a command's word are its
opcode, one of R85's eight, and its argument, which for a well-formed command is the operand itself (R81 to R85). -/

namespace Sys2Proof.Laws.FieldLayout

/-- The operand as a number; 0 in form Z (R82). -/
def operandNumber : Instr → Nat
  | .nop => 0
  | .configure => 0
  | .start => 0
  | .byte value => value
  | .final => 0
  | .check => 0
  | .reverse nbits => nbits
  | .clearErr => 0

/-- What the family says of a command. -/
def Statement (i : Instr) : Prop :=
  opField (encode i) = i.opcode ∧ i.opcode.toNat ≤ 7 ∧
    (i.wellFormed = true → (argField (encode i)).toNat = operandNumber i)

theorem nop : Statement .nop := by simp [Statement, Instr.opcode, Instr.argument, operandNumber]

theorem configure : Statement .configure := by simp [Statement, Instr.opcode, Instr.argument, operandNumber]

theorem start : Statement .start := by simp [Statement, Instr.opcode, Instr.argument, operandNumber]

theorem byte (value : Nat) : Statement (.byte value) := by
  refine ⟨opField_encode _, by simp [Instr.opcode], fun h => ?_⟩
  have hv : value < 2 ^ 24 := by simpa [Instr.wellFormed] using h
  simpa [Instr.argument, operandNumber] using hv

theorem final : Statement .final := by simp [Statement, Instr.opcode, Instr.argument, operandNumber]

theorem check : Statement .check := by simp [Statement, Instr.opcode, Instr.argument, operandNumber]

theorem reverse (nbits : Nat) : Statement (.reverse nbits) := by
  refine ⟨opField_encode _, by simp [Instr.opcode], fun h => ?_⟩
  have hv : nbits < 2 ^ 7 := by simpa [Instr.wellFormed] using h
  simp [Instr.argument, operandNumber]
  omega

theorem clearErr : Statement .clearErr := by simp [Statement, Instr.opcode, Instr.argument, operandNumber]

end Sys2Proof.Laws.FieldLayout
end

