-- ==== Sys2Proof/Laws/Step.lean ====
section
/-! SUPPORT. What one step can do: the HOST's selection, its accesses, and the inversion of step. -/

namespace Sys2Proof.Machine

/-! ## Selection -/

/-- An aligned word access in the window reaches the register at its offset (R61, R62). -/
theorem select_word {p : Params} {off : Nat} (h : off < 4096) (ha : off % 4 = 0) :
    select p (p.base + off) .word = .register (regAt off) := by
  simp [select, ha, h]

/-- Any other access in the window gets a bus error (R62). -/
theorem select_busError {p : Params} {off : Nat} {size : AccessSize} (h : off < 4096)
    (hn : ¬(size = .word ∧ off % 4 = 0)) : select p (p.base + off) size = .busError := by
  simp only [select, Nat.add_sub_cancel_left, if_neg hn]
  rw [if_pos ⟨by omega, by omega⟩]

/-- CMD is where R22 puts it. -/
theorem select_cmd (p : Params) : select p (cmdAddr p) .word = .register .cmd :=
  select_word (p := p) (off := 0x030) (by decide) (by decide)

/-- No other offset of the window is CMD. -/
theorem regAt_eq_cmd {off : Nat} (h : regAt off = .cmd) : off = 0x030 := by
  have hw : windowReg off ≠ .cmd := by
    unfold windowReg
    split <;> simp
  unfold regAt at h
  cases hl : registerMap.lookup off with
  | none => simp [hl, hw] at h
  | some r =>
    have hm := List.lookup_eq_some_iff.mp hl
    obtain ⟨l₁, l₂, hmem, -⟩ := hm
    have : (off, Reg.cmd) ∈ registerMap := by
      rw [hmem]
      simp only [hl, Option.getD_some] at h
      simp [h]
    simpa [registerMap] using this

/-- The issue of a word is a CMD write. -/
@[simp] theorem isCommandIssue_issue (p : Params) (w : Word) : isCommandIssue p (issue p w) = true := by
  simp [isCommandIssue, issue, select_cmd]

/-- A CMD write is the issue of its data: no other address and no other size reaches CMD. -/
theorem eq_issue_of_isCommandIssue {p : Params} {op : HostOp} (h : isCommandIssue p op = true) :
    ∃ w, op = issue p w := by
  cases op with
  | read addr size => simp [isCommandIssue] at h
  | poll addr m v => simp [isCommandIssue] at h
  | write addr size d =>
    have hs : select p addr size = .register .cmd := by simpa [isCommandIssue] using h
    unfold select at hs
    split at hs
    · split at hs
      · rename_i hw ha
        have hr := regAt_eq_cmd (Selected.register.inj hs)
        refine ⟨d, ?_⟩
        rw [ha.1, issue, cmdAddr]
        congr 1
        omega
      · cases hs
    · cases hs

/-- A CMD write's step, with BUSY = 0, is the acceptance of its word. -/
theorem hostStep_issue (w : Word) (s : State) :
    hostStep (issue s.params w) s = acceptWord w (finishAccess .written s) := by
  simp [hostStep, issue, hostWrite, select_cmd]

/-! ## HOST accesses that are no CMD write -/

/-- What any HOST operation but a CMD write does when it does not stop the machine: a register write at most, the
reply, and the operation finished or (a poll) still pending. -/
theorem hostStep_cases {op : HostOp} {s t : State} (hn : isCommandIssue s.params op = false)
    (h : hostStep op s = .next t) :
    ∃ (r : Reg) (d : Word) (l : List HostOp) (a : Reply), (l = s.host ∨ l = s.host.tail) ∧
      t = { writeReg r d s with host := l, reply := a } := by
  cases op with
  | read addr size =>
    simp only [hostStep, hostRead] at h
    split at h
    · cases h
    · exact ⟨.reserved, 0, s.host.tail, .busError, .inr rfl, (Host.Outcome.next.inj h).symm⟩
    · exact ⟨.reserved, 0, s.host.tail, _, .inr rfl, (Host.Outcome.next.inj h).symm⟩
  | poll addr m v =>
    simp only [hostStep, hostPoll] at h
    split at h
    · cases h
    · exact ⟨.reserved, 0, s.host, .busError, .inl rfl, (Host.Outcome.next.inj h).symm⟩
    · split at h
      · exact ⟨.reserved, 0, s.host.tail, _, .inr rfl, (Host.Outcome.next.inj h).symm⟩
      · exact ⟨.reserved, 0, s.host, _, .inl rfl, (Host.Outcome.next.inj h).symm⟩
  | write addr size d =>
    simp only [hostStep, hostWrite] at h
    split at h
    · cases h
    · exact ⟨.reserved, 0, s.host.tail, .busError, .inr rfl, (Host.Outcome.next.inj h).symm⟩
    · rename_i hsel
      simp [isCommandIssue, hsel] at hn
    · rename_i r hne hsel
      refine ⟨r, d, s.host.tail, .written, .inr rfl, ?_⟩
      have ht : t = writeReg r d (finishAccess .written s) := by simpa using h.symm
      subst ht
      cases r <;> rfl

/-- Only an access outside the window is refused. -/
theorem hostStep_refused {op : HostOp} {s : State} {x : Refusal} (hn : isCommandIssue s.params op = false)
    (h : hostStep op s = .refused x) :
    ∃ addr, x = .outsideWindow addr ∧ ¬(s.params.base ≤ addr ∧ addr < s.params.base + 4096) := by
  have key : ∀ {addr size}, select s.params addr size = .elsewhere →
      ¬(s.params.base ≤ addr ∧ addr < s.params.base + 4096) := by
    intro addr size hs
    unfold select at hs
    split at hs
    · split at hs <;> cases hs
    · assumption
  cases op with
  | read addr size =>
    simp only [hostStep, hostRead] at h
    split at h
    · rename_i hs; cases h; exact ⟨addr, rfl, key hs⟩
    · cases h
    · cases h
  | poll addr m v =>
    simp only [hostStep, hostPoll] at h
    split at h
    · rename_i hs; cases h; exact ⟨addr, rfl, key hs⟩
    · cases h
    · split at h <;> cases h
  | write addr size d =>
    simp only [hostStep, hostWrite] at h
    split at h
    · rename_i hs; cases h; exact ⟨addr, rfl, key hs⟩
    · cases h
    · rename_i hsel; simp [isCommandIssue, hsel] at hn
    · cases h

/-! ## The acceptance of a word -/

/-- What the acceptance of a word can do (R101). -/
theorem acceptWord_cases {w : Word} {s t : State} (h : acceptWord w s = .next t) :
    (s.status.error = true ∧ w ≠ 0x07000000 ∧ t = s) ∨
    ((s.status.error = false ∨ w = 0x07000000) ∧ (∃ why, decode w = .illegal why) ∧
      t = raiseError .illegalCommand s) ∨
    ((s.status.error = false ∨ w = 0x07000000) ∧ ∃ i, decode w = .command i ∧ exec i s = .next t) := by
  unfold acceptWord at h
  by_cases hd : s.status.error = true ∧ w ≠ 0x07000000
  · rw [if_pos hd] at h
    exact .inl ⟨hd.1, hd.2, by simpa using h.symm⟩
  · have hor : s.status.error = false ∨ w = 0x07000000 := by
      by_cases hw : w = 0x07000000
      · exact .inr hw
      · exact .inl (by simpa only [hw, ne_eq, not_false_eq_true, and_true, Bool.not_eq_true] using hd)
    rw [if_neg hd] at h
    split at h
    · rename_i why hdec
      exact .inr (.inl ⟨hor, ⟨why, hdec⟩, by simpa using h.symm⟩)
    · rename_i i hdec
      exact .inr (.inr ⟨hor, i, hdec, h⟩)

/-- The acceptance of a word always answers a next state. -/
theorem acceptWord_next (w : Word) (s : State) : ∃ t, acceptWord w s = .next t := by
  unfold acceptWord
  split
  · exact ⟨_, rfl⟩
  · split
    · exact ⟨_, rfl⟩
    · exact exec_next _ _

/-! ## The inversion of step -/

/-- What one step can do: nothing (idle), an ENGINE completion, the acceptance of the HOST's CMD write, or another
HOST access. -/
theorem step_cases {s t : State} (h : step s = .next t) :
    (s.host = [] ∧ s.status.busy = false ∧ t = s) ∨
    (EngineMoves s ∧ ∃ s', (s' = s ∨ s' = spendTurn s) ∧ ∃ i, decode (latchedWord s) = .command i ∧
      exec i s' = .next t) ∨
    (s.status.busy = false ∧ ∃ w, Issues s w ∧ acceptWord w (finishAccess .written s) = .next t) ∨
    (∃ op s', (s' = s ∨ s' = spendTurn s) ∧ HostAccesses s op ∧ hostStep op s' = .next t) := by
  have engine : ∀ {s'}, (s' = s ∨ s' = spendTurn s) → engineStep s' = .next t →
      ∃ i, decode (latchedWord s) = .command i ∧ exec i s' = .next t := by
    intro s' hs' he
    have hl : latchedWord s' = latchedWord s := by
      rcases hs' with rfl | rfl
      · rfl
      · simp [latchedWord]
    unfold engineStep at he
    split at he
    · rename_i i hi
      exact ⟨i, by rw [← hl]; exact hi, he⟩
    · cases he
  unfold step advance at h
  split at h
  · rename_i hh
    split at h
    · rename_i hb
      exact .inr (.inl ⟨⟨hb, .inl hh⟩, s, .inl rfl, engine (.inl rfl) h⟩)
    · rename_i hb
      exact .inl ⟨hh, by simpa using hb, by simpa using h.symm⟩
  · rename_i op rest hh
    split at h
    · rename_i hb
      split at h
      · rename_i hc
        exact .inr (.inl ⟨⟨hb, .inr ⟨op, rest, hh, .inl hc⟩⟩, s, .inl rfl, engine (.inl rfl) h⟩)
      · rename_i hc
        have hc' : isCommandIssue s.params op = false := by simpa using hc
        split at h
        · rename_i ht
          exact .inr (.inr (.inr ⟨op, spendTurn s, .inr rfl, ⟨by simp [hh], hc', .inr ht⟩, h⟩))
        · rename_i ht
          exact .inr (.inl ⟨⟨hb, .inr ⟨op, rest, hh, .inr ht⟩⟩, spendTurn s, .inr rfl, engine (.inr rfl) h⟩)
    · rename_i hb
      have hb' : s.status.busy = false := by simpa using hb
      by_cases hc : isCommandIssue s.params op = true
      · obtain ⟨w, rfl⟩ := eq_issue_of_isCommandIssue hc
        rw [hostStep_issue] at h
        exact .inr (.inr (.inl ⟨hb', w, by simp [Issues, hh], h⟩))
      · exact .inr (.inr (.inr ⟨op, s, .inl rfl, ⟨by simp [hh], by simpa using hc, .inl hb'⟩, h⟩))

/-! ## Placing a word -/

/-- A word placed by withFetchWord is what the very next step runs. -/
theorem step_withFetchWord (s : State) (nbits w : Nat) :
    step (s.withFetchWord nbits w) =
      acceptWord (BitVec.ofNat 32 (w % 2 ^ nbits))
        { s with reply := .written, status := { s.status with busy := false } } := by
  unfold step advance State.withFetchWord queueCommand
  simp only [Bool.false_eq_true, if_false]
  exact hostStep_issue _ _

/-- With nothing to do the block is idle and retains its state (R215). -/
theorem step_idle {s : State} (hh : s.host = []) (hb : s.status.busy = false) : step s = .next s := by
  simp [step, advance, hh, hb]

/-! ## Whose turn it is -/

/-- How many HOST steps the schedule still gives before the ENGINE's turn (R107). -/
def hostTurnsLeft (s : State) : Nat := s.turns.length + (Config.freeHostTurns s.choices - s.waited)

/-- A HOST turn uses one of them up, so the schedule comes to the ENGINE: the weak fairness of R107. -/
theorem hostTurnsLeft_spendTurn_lt {s : State} (h : nextTurn s = .host) :
    hostTurnsLeft (spendTurn s) < hostTurnsLeft s := by
  cases ht : s.turns with
  | nil =>
    have hw : s.waited < Config.freeHostTurns s.choices := by
      by_contra hn
      simp [nextTurn, ht, hn] at h
    simp [hostTurnsLeft, spendTurn, h, ht]
    omega
  | cons a rest => simp [hostTurnsLeft, spendTurn, ht]

/-! ## Runs -/

/-- One step of a run, for any machine. -/
theorem run_succ {M : Host.Core} {k : Nat} {s t : M.State} (h : M.step s = .next t) : M.run (k + 1) s = M.run k t := by
  simp only [Host.Core.run, h]

/-- One step of a run of the block. -/
theorem core_run_succ {k : Nat} {s t : State} (h : step s = .next t) :
    Host.Core.run Sys2Proof.core (k + 1) s = Host.Core.run Sys2Proof.core k t := run_succ h

/-- Runs compose, for any machine. -/
theorem run_add {M : Host.Core} {j k : Nat} {s t : M.State} (h : M.run j s = .next t) :
    M.run (j + k) s = M.run k t := by
  induction j generalizing s with
  | zero =>
    have hs : s = t := Host.Outcome.next.inj h
    rw [hs, Nat.zero_add]
  | succ j ih =>
    cases hs : M.step s with
    | next u =>
      rw [run_succ hs] at h
      rw [show j + 1 + k = j + k + 1 by omega, run_succ hs]
      exact ih h
    | fault r => simp [Host.Core.run, hs] at h
    | refused r => simp [Host.Core.run, hs] at h

/-- Runs of the block compose. -/
theorem core_run_add {j k : Nat} {s t : State} (h : Host.Core.run Sys2Proof.core j s = .next t) :
    Host.Core.run Sys2Proof.core (j + k) s = Host.Core.run Sys2Proof.core k t := run_add h

/-! ## The assembler -/

/-- What fits its field is assembled to the issue of its word (R89). -/
theorem assemble_wellFormed (p : Params) {i : Instr} (h : i.wellFormed = true) :
    assemble p i = some (issue p (encode i)) := by
  simp [assemble, h]

/-- A list of commands that fit is assembled command by command (R89). -/
theorem assembleAll_wellFormed (p : Params) {l : List Instr} (h : ∀ i ∈ l, i.wellFormed = true) :
    assembleAll p l = some (l.map fun i => issue p (encode i)) := by
  induction l with
  | nil => rfl
  | cons i rest ih =>
    have hr := ih fun j hj => h j (List.mem_cons_of_mem _ hj)
    simp [assembleAll, assemble_wellFormed p (h i List.mem_cons_self), hr]

/-- One command that does not fit and the whole list is refused (R89). -/
theorem assembleAll_refused (p : Params) {l : List Instr} (h : ∃ i ∈ l, i.wellFormed = false) :
    assembleAll p l = none := by
  induction l with
  | nil => simp at h
  | cons i rest ih =>
    cases hi : i.wellFormed
    · simp [assembleAll, assemble, hi]
    · obtain ⟨j, hj, hw⟩ := h
      rcases List.mem_cons.mp hj with rfl | hj
      · rw [hi] at hw
        cases hw
      · simp [assembleAll, ih ⟨j, hj, hw⟩]

end Sys2Proof.Machine
end

