-- ==== Sys2Proof/Tests/Slice0.lean ====
section
/-! SUPPORT. The model's own tests: the well-formedness smoke test, decoding of words written out from the spec,
at most two steps per command with values from spec/95_test_vectors.md, and for each statement with hypotheses a
concrete state and operands that meet them. -/

namespace Sys2Proof.Tests

open Sys2Proof Sys2Proof.Machine

/-! ## Helpers -/

/-- The outcome is a next state with this property. -/
def nextIs (o : StepOutcome) (p : State → Bool) : Bool :=
  match o with
  | .next s => p s
  | .fault _ => false
  | .refused _ => false

/-- The state with this HOST queue. -/
def queued (ops : List HostOp) (s : State) : State := { s with host := ops }

/-- The state whose HOST next writes this word to CMD. -/
def issuing (w : Word) (s : State) : State := queued [issue s.params w] s

/-- The state with command i accepted and not completed. -/
def running (i : Instr) (s : State) : State := beginBusy (latchCommand i s)

/-- The state with a message open. -/
def opened (s : State) : State := { s with status := { s.status with isOpen := true } }

/-- CRC-8/SMBUS (95_test_vectors.md section 1). -/
def smbusConfig : CrcConfig :=
  { width := 8, reflectIn := false, reflectOut := false, poly := 0x07, init := 0, xorout := 0 }

/-- A block configured for CRC-8/SMBUS. -/
def smbus : State :=
  { State.reset with
    cfg := smbusConfig
    act := smbusConfig
    table := buildTable smbusConfig.numbers
    status := { Status.reset with configured := true } }

/-- CRC-32/ISO-HDLC (95_test_vectors.md V-CF1), as supplied. -/
def crc32Config : CrcConfig :=
  { width := 32, reflectIn := true, reflectOut := true, poly := 0x04C11DB7, init := 0xFFFFFFFF, xorout := 0xFFFFFFFF }

/-- A block whose CONFIGURE of CRC-32/ISO-HDLC is in progress. -/
def configuring : State :=
  running .configure { State.reset with cfg := crc32Config, latch := { Latch.zero with cfg := crc32Config } }

/-! ## Well-formedness: each check refuses an ill-formed command -/

theorem test_wellFormed_byte : (Instr.byte (2 ^ 24)).wellFormed = false ∧ (Instr.byte 0xFFFFFF).wellFormed = true := by
  decide

theorem test_wellFormed_reverse : (Instr.reverse 128).wellFormed = false ∧ (Instr.reverse 127).wellFormed = true := by
  decide

/-! ## Decoding: words from R82 to R85, bit by bit -/

theorem test_decode_nop : decode 0b00000000_00000000_00000000_00000000 = .command .nop := by decide

theorem test_decode_configure : decode 0b00000001_00000000_00000000_00000000 = .command .configure := by decide

theorem test_decode_start : decode 0b00000010_00000000_00000000_00000000 = .command .start := by decide

theorem test_decode_byte : decode 0b00000011_00000000_00000000_00110001 = .command (.byte 0x31) := by decide

theorem test_decode_final : decode 0b00000100_00000000_00000000_00000000 = .command .final := by decide

theorem test_decode_check : decode 0b00000101_00000000_00000000_00000000 = .command .check := by decide

theorem test_decode_reverse : decode 0b00000110_00000000_00000000_01000001 = .command (.reverse 65) := by decide

theorem test_decode_clearErr : decode 0b00000111_00000000_00000000_00000000 = .command .clearErr := by decide

/-- V-ER8, V-ER9, V-ER7, V-ER10, V-ER11 and V-RV25: the illegal words, with the case of R86 each falls under. -/
theorem test_decode_illegal :
    decode 0x08000000 = .illegal .reservedOpcode ∧ decode 0xFF000000 = .illegal .reservedOpcode ∧
      decode 0x01000001 = .illegal .argNotZero ∧ decode 0x00000001 = .illegal .argNotZero ∧
      decode 0x07000001 = .illegal .argNotZero ∧ decode 0x06000080 = .illegal .reverseBitsNotZero := by decide

/-- The host's entry to the decoder, on table words. -/
theorem test_decodeTableWord :
    decodeTableWord 32 0x0300FFFF = some (.byte 0xFFFF) ∧ decodeTableWord 32 0x06000080 = none := by decide

/-! ## One step per test, from spec/95_test_vectors.md -/

/-- V-ER15: the acceptance of NOP sets BUSY alone. -/
theorem test_nop_accept : nextIs (step (issuing 0x00000000 smbus)) (fun s => s.status.word = 0x003) := by decide

/-- V-ER15: its completion leaves STATUS 0x002. -/
theorem test_nop_complete : nextIs (step (running .nop smbus)) (fun s => s.status.word = 0x002) := by decide

/-- V-CF15: CONFIGURE with the staging registers of reset. -/
theorem test_configure_invalidWidth :
    nextIs (step (issuing 0x01000000 State.reset)) (fun s => s.status.word = 0x110) := by decide

/-- V-CF1: STATUS, ACT_CFG, ACT_POLY and TABLE[1] of CRC-32/ISO-HDLC. -/
theorem test_configure_complete :
    nextIs (step configuring) (fun s => s.status.word = 0x002 && readReg .actCfg s = 0x320 &&
      readReg (.actPoly .lo) s = 0xEDB88320 && readReg (regAt 0x108) s = 0x77073096) := by decide +kernel

/-- V-ER1: START without a configuration. -/
theorem test_start_notConfigured :
    nextIs (step (issuing 0x02000000 State.reset)) (fun s => s.status.word = 0x810) := by decide

/-- R155's example: START loads act_init and opens the message. -/
theorem test_start_complete :
    nextIs (step (running .start { smbus with act := crc32Config.stored })) (fun s =>
      s.crc = 0xFFFFFFFF && s.status.word = 0x006) := by decide

/-- V-ER4: NOT_OPEN comes before INVALID_MESSAGE. -/
theorem test_byte_notOpen : nextIs (step (issuing 0x03000100 smbus)) (fun s => s.status.word = 0x912) := by decide

/-- R156's example: the first byte of "123456789" under CRC-8/SMBUS. -/
theorem test_byte_complete :
    nextIs (step (running (.byte 0x31) (opened smbus))) (fun s => s.crc = 0x97 && s.status.word = 0x006) := by
  decide +kernel

/-- V-FN14: FINAL with no message. -/
theorem test_final_notOpen : nextIs (step (issuing 0x04000000 smbus)) (fun s => s.status.word = 0x912) := by decide

/-- R157's example: crc = 0x340BC6D9 under CRC-32/ISO-HDLC. -/
theorem test_final_complete :
    nextIs (step (running .final (opened { smbus with act := crc32Config.stored, crc := 0x340BC6D9 }))) (fun s =>
      s.result = 0xCBF43926 && s.status.word = 0x00A) := by decide

/-- Section 2.5: CHECK in an open message. -/
theorem test_check_sequence :
    nextIs (step (issuing 0x05000000 (opened smbus))) (fun s => s.status.word = 0xA12) := by decide

/-- S3: the check value of CRC-8/SMBUS. -/
theorem test_check_complete :
    nextIs (step (running .check smbus)) (fun s => s.result = 0xF4 && s.status.word = 0x00A) := by decide +kernel

/-- V-RV22: NBITS = 65. -/
theorem test_reverse_invalidNbits :
    nextIs (step (issuing 0x06000041 State.reset)) (fun s => s.status.word = 0x710) := by decide

/-- V-RV2: the polynomial of CRC-32 reversed. -/
theorem test_reverse_complete :
    nextIs (step (running (.reverse 32) { State.reset with latch := { Latch.zero with operand := 0x04C11DB7 } }))
      (fun s => s.result = 0xEDB88320 && s.status.word = 0x008) := by decide +kernel

/-- V-ER13: 0x07000001 is discarded while ERROR = 1. -/
theorem test_clearErr_inexact :
    nextIs (step (issuing 0x07000001 (raiseError .notConfigured State.reset))) (fun s => s.status.word = 0x810) := by
  decide

/-- R181's example: 0x912 becomes 0x002. -/
theorem test_clearErr_complete :
    nextIs (step (running .clearErr (raiseError .notOpen smbus))) (fun s => s.status.word = 0x002) := by decide

/-- V-MM2 and V-MM10: only the writable bits are stored; with WMAX = 32 the high word is RAZ/WI. -/
theorem test_registers :
    readReg .cfgWidth (writeReg .cfgWidth 0xFFFFFF88 State.reset) = 8 ∧
      readReg (.cfgPoly .hi) (writeReg (.cfgPoly .hi) 0xFFFFFFFF (State.afterReset { wmax := 32, base := 0 })) = 0 ∧
      readReg (.cfgPoly .lo) (writeReg (.cfgPoly .lo) 0x1FF (State.afterReset { wmax := 8, base := 0 })) = 0xFF := by
  decide

/-- The host's placed word runs on the very next step. -/
theorem test_withFetchWord :
    nextIs (step (State.reset.withFetchWord 32 0x00000000)) (fun s => s.status.word = 0x001) := by decide

/-! ## States that meet the invariant -/

/-- Every value fits a 64-bit register. -/
theorem fits_wmax (v : Value) : fits 64 v := v.isLt

/-- A state without a message, an error or a command in progress has nothing more to show than its registers. -/
theorem smbus_inv : BlockInv smbus :=
  ⟨by decide,
    ⟨⟨fits_wmax _, fits_wmax _, fits_wmax _⟩, fits_wmax _, fits_wmax _,
      ⟨fits_wmax _, fits_wmax _, fits_wmax _⟩, fun _ => fits_wmax _, fits_wmax _,
      ⟨fits_wmax _, fits_wmax _, fits_wmax _⟩, fits_wmax _⟩,
    fun _ => show smbusConfig.numbers.Legal 64 by decide,
    fun _ b hb => by
      have h : ∀ b, b < 256 → genTable 8 0x07 false b < 2 ^ 8 := by decide +kernel
      exact (congrArg BitVec.toNat (tableEntry_buildTable _ hb)).trans (toNat_toValue (h b hb) (by decide)),
    fun h => absurd h (by decide), fun h => absurd h (by decide), by decide, fun h => absurd h (by decide),
    fun h => absurd h (by decide)⟩

theorem opened_inv : BlockInv (opened smbus) :=
  have h := smbus_inv
  ⟨h.params, ⟨h.registers.1, h.registers.2, h.registers.3, h.registers.4, h.registers.5, h.registers.6, h.registers.7,
    h.registers.8⟩, h.active, h.table, fun _ => rfl, fun _ => show (0 : Nat) < 2 ^ 8 by decide, h.errorCause,
    fun h => absurd h (by decide), fun h => absurd h (by decide)⟩

theorem queued_inv {s : State} (ops : List HostOp) (h : BlockInv s) : BlockInv (queued ops s) :=
  ⟨h.params, ⟨h.registers.1, h.registers.2, h.registers.3, h.registers.4, h.registers.5, h.registers.6, h.registers.7,
    h.registers.8⟩, h.active, h.table, h.openConfigured, h.openCrc, h.errorCause, h.errorClosed, h.busyLatch⟩

theorem running_inv {s : State} {i : Instr} (h : BlockInv s) (hd : decode (encode i) = .command i)
    (he : s.status.error = false) (hr : Ready i (running i s)) : BlockInv (running i s) :=
  ⟨h.params, ⟨h.registers.1, h.registers.2, h.registers.3, h.registers.4, h.registers.5, h.registers.6, h.registers.7,
    h.registers.8⟩, h.active, h.table, h.openConfigured, h.openCrc, h.errorCause, h.errorClosed,
    fun _ => ⟨i, (congrArg decode (latchedWord_latchCommand i s)).trans hd, .inr he, hr⟩⟩

/-! ## Witnesses: encoding -/

/-- EncodeThenDecodeGivesTheCommand: operands at the ends of their fields. -/
theorem witness_encode :
    (Instr.byte 0).wellFormed = true ∧ (Instr.byte 0xFFFFFF).wellFormed = true ∧
      (Instr.reverse 0).wellFormed = true ∧ (Instr.reverse 127).wellFormed = true ∧ Instr.nop.wellFormed = true := by
  decide

/-- DecodeThenEncodeGivesTheWord. -/
theorem witness_decode :
    decode 0x03FFFFFF = .command (.byte 0xFFFFFF) ∧ decode 0x0600007F = .command (.reverse 127) := by decide

/-- AssemblerIssuesTheCommandWord: operands on both sides of each bound, and lists of bytes on both sides. -/
theorem witness_assemble :
    assemble Params.default (.byte 0xFFFFFF) = some (wr Params.default 0x030 0x03FFFFFF) ∧
      assemble Params.default (.byte 0x1000000) = none ∧
      assemble Params.default (.reverse 127) = some (wr Params.default 0x030 0x0600007F) ∧
      assemble Params.default (.reverse 128) = none ∧
      crcBytes Params.default [0xFFFFFF] = some [wr Params.default 0x030 0x03FFFFFF] ∧
      crcBytes Params.default [0x31, 0x1000031] = none := by decide

/-! ## Witnesses: steps -/

/-- One command of each row. -/
def samples : List Instr := [.nop, .configure, .start, .byte 0x31, .final, .check, .reverse 8, .clearErr]

/-- A state in which the command passes its checks. -/
def ready (i : Instr) : State :=
  match i with
  | .nop => smbus
  | .configure => smbus
  | .start => smbus
  | .byte _ => opened smbus
  | .final => opened smbus
  | .check => smbus
  | .reverse _ => smbus
  | .clearErr => raiseError .notOpen smbus

/-- An issue with BUSY = 0 always has a next state. -/
theorem issuing_steps {s : State} (w : Word) (h : s.status.busy = false) : ∃ t, step (issuing w s) = .next t := by
  obtain ⟨t, ht⟩ := acceptWord_next w (finishAccess .written (issuing w s))
  refine ⟨t, ?_⟩
  rw [← ht]
  simp only [step, advance, issuing, queued, h]
  exact hostStep_issue w (issuing w s)

/-- An accepted command always has a next state. -/
theorem running_steps {s : State} {i : Instr} (hh : s.host = []) (hd : decode (encode i) = .command i) :
    ∃ t, step (running i s) = .next t := by
  obtain ⟨t, ht⟩ := exec_next i (running i s)
  refine ⟨t, ?_⟩
  rw [← ht]
  have hl : latchedWord (running i s) = encode i := latchedWord_latchCommand i s
  have hh' : (running i s).host = [] := hh
  have hb : (running i s).status.busy = true := rfl
  simp only [step, advance, hh', hb, if_true, engineStep, hl, hd]

/-- Every statement about an acceptance or a completion: for each command, a state that accepts it and one that
completes it, each with a next state. For StepRunsTheIssuedCommand, FirstApplicableOutcomeIsTaken,
BusyChangesOnlyOnItsEvents, ConfiguredChangesOnlyOnItsEvents, OpenChangesOnlyOnItsEvents,
ResultValidChangesOnlyOnItsEvents, ResultIsWrittenOnlyByItsCommands, CrcIsWrittenOnlyByStartAndByte,
OnlyConfigureChangesTheActiveConfiguration, LatchIsWrittenOnlyByAcceptance,
StagingWritesDoNotAffectTheCommandInProgress and ReadbackIsGatedByConfigured. -/
theorem witness_events : ∀ i ∈ samples,
    (Accepts (issuing (encode i) (ready i)) i ∧ ∃ t, step (issuing (encode i) (ready i)) = .next t) ∧
      (Completes (running i (ready i)) i ∧ InProgress (running i (ready i)) i ∧
        ∃ t, step (running i (ready i)) = .next t) := by
  intro i hi
  have hd : decode (encode i) = .command i := by revert i; decide
  have hc : commandChecks i (issuing (encode i) (ready i)) = none := by revert i; decide
  have hb : (ready i).status.busy = false := by revert i; decide
  have he : (ready i).status.error = false ∨ i = .clearErr := by revert i; decide
  have hh : (ready i).host = [] := by revert i; decide
  exact ⟨⟨⟨hb, he, hc, encode i, rfl, hd⟩, issuing_steps _ hb⟩,
    ⟨⟨rfl, .inl hh⟩, (congrArg decode (latchedWord_latchCommand i _)).trans hd⟩, ⟨rfl, latchedWord_latchCommand i _⟩,
    running_steps hh hd⟩

/-- The event statements' third kind of step, in which none of their events happens: the idle block. -/
theorem witness_noEvent : step smbus = .next smbus ∧ ¬ (∃ i, Accepts smbus i) ∧ ¬ (∃ i, Completes smbus i) ∧
    ¬ (∃ cause, Raises smbus cause) :=
  ⟨step_idle rfl rfl, (fun ⟨_, _, _, _, _, h, _⟩ => nomatch h), fun ⟨_, h⟩ => absurd h.1.1 (by decide),
    (fun ⟨_, _, _, _, h, _⟩ => nomatch h)⟩

/-- ErrorsWriteFourStatusFields, ErrorAndCauseChangeOnlyOnTheirEvents, IllegalWordsAndTheirAcceptance: an error of
each of the eleven causes. -/
theorem witness_raises :
    Raises (issuing 0x01000000 State.reset) .invalidWidth ∧
      Raises (issuing 0x01000000 { smbus with cfg := { smbusConfig with poly := 0x100 } }) .invalidPoly ∧
      Raises (issuing 0x01000000 { smbus with cfg := { smbusConfig with init := 0x100 } }) .invalidInit ∧
      Raises (issuing 0x01000000 { smbus with cfg := { smbusConfig with xorout := 0x100 } }) .invalidXorout ∧
      Raises (issuing 0x06000001 { smbus with operand := 3 }) .invalidReverseValue ∧
      Raises (issuing 0x03000100 (opened smbus)) .invalidMessage ∧
      Raises (issuing 0x06000041 smbus) .invalidNbits ∧
      Raises (issuing 0x02000000 State.reset) .notConfigured ∧
      Raises (issuing 0x04000000 smbus) .notOpen ∧
      Raises (issuing 0x05000000 (opened smbus)) .sequence ∧
      Raises (issuing 0x08000000 smbus) .illegalCommand :=
  ⟨⟨rfl, rfl, _, rfl, .inr ⟨.configure, by decide, by decide⟩⟩,
    ⟨rfl, rfl, _, rfl, .inr ⟨.configure, by decide, by decide⟩⟩,
    ⟨rfl, rfl, _, rfl, .inr ⟨.configure, by decide, by decide⟩⟩,
    ⟨rfl, rfl, _, rfl, .inr ⟨.configure, by decide, by decide⟩⟩,
    ⟨rfl, rfl, _, rfl, .inr ⟨.reverse 1, by decide, by decide⟩⟩,
    ⟨rfl, rfl, _, rfl, .inr ⟨.byte 0x100, by decide, by decide⟩⟩,
    ⟨rfl, rfl, _, rfl, .inr ⟨.reverse 65, by decide, by decide⟩⟩,
    ⟨rfl, rfl, _, rfl, .inr ⟨.start, by decide, by decide⟩⟩,
    ⟨rfl, rfl, _, rfl, .inr ⟨.final, by decide, by decide⟩⟩,
    ⟨rfl, rfl, _, rfl, .inr ⟨.check, by decide, by decide⟩⟩,
    ⟨rfl, rfl, _, rfl, .inl ⟨⟨.reservedOpcode, by decide⟩, rfl⟩⟩⟩

/-- IllegalWordsAndTheirAcceptance and EveryOtherWordIsDiscardedWhileError: an illegal word and a legal one with
ERROR = 1. -/
theorem witness_discard :
    (issuing 0x0600FFFF (raiseError .notOpen smbus)).status.busy = false ∧
      (issuing 0x0600FFFF (raiseError .notOpen smbus)).status.error = true ∧
      Issues (issuing 0x0600FFFF (raiseError .notOpen smbus)) 0x0600FFFF ∧
      decode 0x0600FFFF = .illegal .reverseBitsNotZero ∧
      Issues (issuing 0x02000000 (raiseError .notOpen smbus)) 0x02000000 ∧ (0x02000000 : Word) ≠ 0x07000000 :=
  ⟨rfl, rfl, rfl, by decide, rfl, by decide⟩

/-- EngineStepRunsTheLatchedCommand: a held CMD write, and another access whose turn it is not. -/
theorem witness_engineStep :
    (∃ op rest, (running .nop (issuing 0x01000000 smbus)).host = op :: rest ∧
        isCommandIssue (running .nop (issuing 0x01000000 smbus)).params op = true) ∧
      (∃ op rest, (queued [rd Params.default 0x034] { running .nop smbus with turns := [.engine] }).host = op :: rest ∧
        isCommandIssue Params.default op = false) ∧
      nextTurn (queued [rd Params.default 0x034] { running .nop smbus with turns := [.engine] }) = .engine ∧
      decode (latchedWord (running .nop smbus)) = .command .nop :=
  ⟨⟨_, _, rfl, by decide⟩, ⟨_, _, rfl, by decide⟩, rfl, by decide⟩

/-- EngineStepClearsBusy and HeldWriteIsAcceptedAfterCompletion: a held write. -/
theorem witness_held :
    BlockInv (running .nop (issuing 0x01000000 smbus)) ∧ (running .nop (issuing 0x01000000 smbus)).status.busy = true ∧
      Issues (running .nop (issuing 0x01000000 smbus)) 0x01000000 ∧
      EngineMoves (running .nop (issuing 0x01000000 smbus)) :=
  ⟨running_inv (queued_inv _ smbus_inv) (by decide) rfl trivial, rfl, rfl, rfl, .inr ⟨_, _, rfl, .inl (by decide)⟩⟩

/-- The state whose HOST makes this access while a NOP is in progress. -/
def accessing (op : HostOp) : State := { running .nop (queued [op] smbus) with turns := [.host] }

/-- ReadsReturnTheRegisterAndChangeNothing, WritesStoreAtOnce, PollRepeatsUntilTheConditionHolds,
ReservedLocationsReadZeroAndIgnoreWrites, StagingWritesDoNotAffectTheCommandInProgress: accesses while BUSY = 1, at the
first and last offsets, at a read-only register and at a reserved one. -/
theorem witness_accesses :
    HostAccesses (accessing (.read 0x000 .word)) (.read 0x000 .word) ∧
      HostAccesses (accessing (.read 0xFFC .word)) (.read 0xFFC .word) ∧
      HostAccesses (accessing (.write 0x028 .word 5)) (.write 0x028 .word 5) ∧
      HostAccesses (accessing (.write 0x034 .word 5)) (.write 0x034 .word 5) ∧
      HostAccesses (accessing (.write 0x900 .word 5)) (.write 0x900 .word 5) ∧
      HostAccesses (accessing (.poll 0x034 1 0)) (.poll 0x034 1 0) ∧
      (regAt 0x028).access = .rw ∧ (regAt 0x034).access = .ro ∧ (regAt 0x900).access = .razWi ∧
      regAt 0xFFC = .reserved ∧ (accessing (.write 0x028 .word 5)).status.busy = true :=
  ⟨⟨rfl, by decide, .inr rfl⟩, ⟨rfl, by decide, .inr rfl⟩, ⟨rfl, by decide, .inr rfl⟩, ⟨rfl, by decide, .inr rfl⟩,
    ⟨rfl, by decide, .inr rfl⟩, ⟨rfl, by decide, .inr rfl⟩, by decide, by decide, by decide, by decide, rfl⟩

/-- EngineStepClearsBusy: a crc.wait with a command in progress and without, in the window, and R107's poll on a
condition that stays false. -/
theorem witness_waits :
    BlockInv (running .nop (queued (crcWait Params.default) smbus)) ∧
      HostInWindow (running .nop (queued (crcWait Params.default) smbus)) ∧
      (running .nop (queued (crcWait Params.default) smbus)).status.busy = true ∧
      (running .nop (queued (crcWait Params.default) smbus)).host = crcWait smbus.params ++ [] ∧
      BlockInv (queued (crcWait Params.default) smbus) ∧
      State.reset.status.busy = false ∧ State.reset.status.configured = false ∧
      (queued [poll Params.default 0x034 0x2 0x2] State.reset).host = poll State.reset.params 0x034 0x2 0x2 :: [] :=
  ⟨running_inv (queued_inv _ smbus_inv) (by decide) rfl trivial, fun op h => by
    rw [List.mem_singleton.mp h]
    exact (by decide : 0 ≤ 0x034 ∧ 0x034 < 0 + 4096), rfl, rfl, queued_inv _ smbus_inv, rfl, rfl, rfl⟩

/-- OtherAccessesGetABusError: a byte access, word accesses that are not aligned (V-MM12), and a misaligned poll. -/
theorem witness_busErrors :
    ¬(AccessSize.byte = .word ∧ 0x004 % 4 = 0) ∧ ¬(AccessSize.word = .word ∧ 0xFFF % 4 = 0) ∧
      (accessing (.write 0x004 .byte 5)).host.head? = some (.write 0x004 .byte 5) ∧
      (accessing (.read 0xFFF .word)).host.head? = some (.read 0xFFF .word) ∧
      nextTurn (accessing (.read 0xFFF .word)) = .host ∧ 0xFFF % 4 ≠ 0 ∧
      (accessing (.poll 0xFFF 1 0)).host.head? = some (.poll 0xFFF 1 0) ∧
      nextTurn (accessing (.poll 0xFFF 1 0)) = .host := ⟨by decide, by decide, rfl, rfl, rfl, by decide, rfl, rfl⟩

/-- OnlyAccessesOutsideTheWindowStop: a state of the invariant in the window, and a refused access. -/
theorem witness_stops :
    BlockInv (queued [rd Params.default 0x034] smbus) ∧ HostInWindow (queued [rd Params.default 0x034] smbus) ∧
      step (queued [.read 0x1000 .word] smbus) = .refused (.outsideWindow 0x1000) :=
  ⟨queued_inv _ smbus_inv, fun op h => by
    rw [List.mem_singleton.mp h]
    exact (by decide : 0 ≤ 0x034 ∧ 0x034 < 0 + 4096), rfl⟩

/-! ## Witnesses: registers -/

/-- ParamIsTheConstantWmax, CfgWidthAndFlagsKeepTheirFields, ResetMeetsTheInvariant: both ends of WMAX, and a block in
which WIDTH has not been written. -/
theorem witness_reset :
    ({ wmax := 8, base := 0 } : Params).Legal ∧ ({ wmax := 64, base := 0x1000 } : Params).Legal ∧
      State.reset.status.busy = false ∧ State.reset.status.error = false ∧ State.reset.status.isOpen = false ∧
      State.reset.cfg.width = 0 := by decide

/-- ValueRegistersComposeTheirWords, ActCfgAndTableReadback, ReadbackIsGatedByConfigured: registers that fit, with
CONFIGURED = 1 and with CONFIGURED = 0, and steps on each side. -/
theorem witness_registers :
    RegistersFit smbus ∧ smbus.params.Legal ∧ smbus.status.configured = true ∧
      (running .configure { smbus with status := Status.reset }).status.configured = false ∧
      step smbus = .next smbus ∧ ¬ Completes smbus .configure ∧
      RegistersFit (queued [] { smbus with status := Status.reset }) :=
  ⟨smbus_inv.registers, smbus_inv.params, rfl, rfl, step_idle rfl rfl, fun h => absurd h.1.1 (by decide),
    ⟨smbus_inv.registers.1, smbus_inv.registers.2, smbus_inv.registers.3, smbus_inv.registers.4,
      smbus_inv.registers.5, smbus_inv.registers.6, smbus_inv.registers.7, smbus_inv.registers.8⟩⟩

/-- StatusWordHoldsItsFields: states of the invariant with ERROR = 0 and with ERROR = 1. -/
theorem witness_status :
    BlockInv smbus ∧ smbus.status.error = false ∧ BlockInv (raiseError .notOpen smbus) ∧
      (raiseError .notOpen smbus).status.error = true ∧
      (readReg .status (raiseError .notOpen smbus)).extractLsb' 8 4 = 9 :=
  have h := smbus_inv
  ⟨h, rfl, ⟨h.params, ⟨h.registers.1, h.registers.2, h.registers.3, h.registers.4, h.registers.5, h.registers.6,
    h.registers.7, h.registers.8⟩, h.active, h.table, fun h => absurd h (by decide), fun h => absurd h (by decide),
    by decide, fun _ => ⟨rfl, rfl⟩, fun h => absurd h (by decide)⟩, rfl, by decide⟩

/-- RegisterMapOffsets: the addresses on both sides of the window's end. -/
theorem witness_window :
    select Params.default 0xFFC .word = .register .reserved ∧ ¬(0 ≤ 0x1000 ∧ 0x1000 < 0 + 4096) ∧
      select Params.default 0x1000 .word = .elsewhere := by decide

/-- RegisterMapOffsets, ReservedLocationsReadZeroAndIgnoreWrites, WritesLeaveEveryOtherRegisterAlone: a register of
each access type, two words that differ in a reserved bit only, and two registers. -/
theorem witness_map :
    Reg.param.access ≠ .rw ∧ Reg.cmd.access = .wo ∧ Reg.reserved.access = .razWi ∧
      (∀ k, k < 7 → (0x80 : Word).getLsbD k = (0 : Word).getLsbD k) ∧
      (∀ k, k < 2 → (0x80 : Word).getLsbD k = (0 : Word).getLsbD k) ∧ Reg.operand .hi ≠ Reg.operand .lo ∧
      regAt 0x00C = .reserved ∧ regAt 0x044 = .reserved ∧ regAt 0x060 = .reserved ∧ regAt 0x0FC = .reserved ∧
      regAt 0x900 = .reserved := by decide

/-! ## Witnesses: the commands -/

/-- The statements of each command: BUSY = 0 and ERROR = 0 in each state its checks tell apart, and its completion.
For NopWritesNothingButBusy, ConfigureChecksThenSnapshots, ConfigureInstallsTheStoredConfiguration,
FailedConfigureKeepsTheOldConfiguration, StartOpensAMessage, ByteStepsTheWorkingRegister, FinalWritesTheDigest,
CheckWritesTheCheckValue, ReverseWritesTheReversedOperand, CompletionsRaiseNoError. -/
theorem witness_commands :
    (∀ s ∈ [State.reset, smbus, opened smbus], s.status.busy = false ∧ s.status.error = false) ∧
      (raiseError .notOpen smbus).status.error = true ∧ (∀ i ∈ samples, InProgress (running i (ready i)) i) ∧
      reverseBits (running (.reverse 8) smbus).latch.operand.toNat 8 = some 0 ∧
      configureChecks State.reset ≠ none ∧ configureChecks (opened smbus) ≠ none := by
  refine ⟨?_, rfl, fun i hi => (witness_events i hi).2.2.1, by decide, by decide, by decide⟩
  intro s hs
  simp only [List.mem_cons, List.not_mem_nil, or_false] at hs
  rcases hs with rfl | rfl | rfl <;> exact ⟨rfl, rfl⟩

/-- ClearErrClearsOnlyTheError: a completion with ERROR = 0, and an inexact CLEAR_ERR word issued with BUSY = 0. -/
theorem witness_clearErr :
    InProgress (running .clearErr smbus) .clearErr ∧ (running .clearErr smbus).status.error = false ∧
      (running .clearErr smbus).status.errCause = .noError ∧ opField 0x07000001 = 0x07 ∧ argField 0x07000001 ≠ 0 ∧
      (issuing 0x07000001 smbus).status.busy = false ∧ Issues (issuing 0x07000001 smbus) 0x07000001 :=
  ⟨⟨rfl, rfl⟩, rfl, rfl, by decide, by decide, rfl, rfl⟩

/-! ## Witnesses: the invariant and the laws -/

/-- StepKeepsTheInvariant, CrcIsWrittenOnlyByStartAndByte, EveryIntermediateValueFitsTheWidth, ReverseBitsLaws: states
of the invariant with a message open and with FINAL in progress, and their next states. -/
theorem witness_invariant :
    BlockInv (opened smbus) ∧ (opened smbus).status.isOpen = true ∧ BlockInv (running .final (opened smbus)) ∧
      Completes (running .final (opened smbus)) .final ∧ (∃ t, step (running .final (opened smbus)) = .next t) ∧
      BlockInv (running .check smbus) ∧ Completes (running .check smbus) .check :=
  ⟨opened_inv, rfl, running_inv opened_inv (by decide) rfl ⟨rfl, rfl⟩, ⟨⟨rfl, .inl rfl⟩, by decide⟩,
    running_steps rfl (by decide), running_inv smbus_inv (by decide) rfl ⟨rfl, rfl⟩, ⟨⟨rfl, .inl rfl⟩, by decide⟩⟩

/-- ReverseBitsLaws: a value that fits, one that does not, a validated variant, and a step that records
INVALID_REVERSE_VALUE. -/
theorem witness_reverseBits :
    0x80F < 2 ^ 12 ∧ 2 ^ 12 ≤ 0x1000 ∧ 0 < 2 ^ 0 ∧ validate 64 smbusConfig.numbers = none ∧
      nextIs (step (issuing 0x06000001 { smbus with operand := 3 })) (fun t =>
        t.status.errCause = .invalidReverseValue) := by decide

/-- TableLaws, EveryIntermediateValueFitsTheWidth, TableDrivenDigestIsBitwiseDivision, OutputReflectionLaw,
InputReflectionLaw, EmptyMessageDigest: legal variants at both ends of the width, with the output reflected and not,
and a message. -/
theorem witness_laws :
    smbusConfig.numbers.Legal 8 ∧
      ({ width := 64, poly := 0x1B, init := 2 ^ 64 - 1, reflectIn := true, reflectOut := true,
          xorout := 2 ^ 64 - 1 } : Variant).Legal 64 ∧
      (∀ b ∈ checkMessage, b < 256) ∧ (8 ≤ 8 ∧ 0x07 < 2 ^ 8) ∧ ((0 : Nat) < 256 ∧ 255 < 256) ∧
      smbusConfig.numbers.reflectOut = smbusConfig.numbers.reflectIn ∧
      { smbusConfig with reflectOut := true }.numbers.reflectOut ≠ smbusConfig.numbers.reflectIn := by decide

/-- TableLaws: two CONFIGUREs that agree in (W, P', RI) and differ in xorout and reflectOut. -/
theorem witness_sameTable :
    InProgress configuring .configure ∧
      InProgress { configuring with latch := { configuring.latch with
        cfg := { crc32Config with xorout := 0, reflectOut := false } } } .configure ∧
      crc32Config.stored.poly = { crc32Config with xorout := 0, reflectOut := false }.stored.poly ∧
      crc32Config.numbers.Legal 64 := ⟨⟨rfl, rfl⟩, ⟨rfl, rfl⟩, rfl, by decide⟩

/-- MessageRunLeavesItsDigest and CheckEqualsTheMessageOfTheNineDigits. -/
theorem witness_message :
    BlockInv smbus ∧ smbus.status.busy = false ∧ smbus.status.error = false ∧ smbus.status.configured = true ∧
      smbus.status.isOpen = false ∧ ∀ b ∈ checkMessage, b < 256 := ⟨smbus_inv, rfl, rfl, rfl, rfl, by decide⟩

/-- StagingWritesDoNotAffectTheCommandInProgress and CompletionsRaiseNoError: a completion with a next state. -/
theorem witness_snapshot : InProgress configuring .configure ∧ ∃ t, exec .configure configuring = .next t :=
  ⟨⟨rfl, rfl⟩, exec_next _ _⟩

end Sys2Proof.Tests
end

section
/-! SUPPORT. The decoder answers a command for its own encoding only (R85, R88). -/

namespace Sys2Proof

/-- What the two fields of a word hold when they decode to a command (R85). -/
theorem fields_of_decodeFields {op : BitVec 8} {arg : BitVec 24} {i : Instr}
    (h : decodeFields op arg = .command i) : op = i.opcode ∧ arg = i.argument ∧ i.wellFormed = true := by
  have hop : ∀ {o : BitVec 8}, op.toNat = o.toNat → op = o := BitVec.eq_of_toNat_eq
  have hz : ∀ {j : Instr}, decodeZ j arg = .command i → arg = 0 ∧ j = i := by
    intro j hj
    unfold decodeZ at hj
    split at hj
    · exact ⟨‹_›, Decoded.command.inj hj⟩
    · cases hj
  unfold decodeFields at h
  split at h
  case h_4 hn =>
    obtain rfl := Decoded.command.inj h
    exact ⟨hop hn, by simp [Instr.argument], by simpa [Instr.wellFormed] using arg.isLt⟩
  case h_7 hn =>
    unfold decodeR at h
    split at h
    · rename_i hr
      obtain rfl := Decoded.command.inj h
      refine ⟨hop hn, BitVec.eq_of_toNat_eq ?_, by simpa [Instr.wellFormed] using (nbitsField arg).isLt⟩
      have h0 : (arg.toNat >>> 7) % 2 ^ 17 = 0 := by
        simpa [reverseZeroField] using congrArg BitVec.toNat hr
      have hlt := arg.isLt
      rw [Nat.shiftRight_eq_div_pow] at h0
      simp only [Instr.argument, nbitsField, BitVec.extractLsb'_toNat, BitVec.toNat_ofNat, Nat.shiftRight_zero]
      omega
    · cases h
  case h_9 => cases h
  all_goals
    rename_i hn
    obtain ⟨ha, rfl⟩ := hz h
    exact ⟨hop hn, ha, rfl⟩

/-- A word that decodes to a command is that command's encoding, and the operand fits (R88). -/
theorem encode_of_decode {w : Word} {i : Instr} (h : decode w = .command i) :
    i.wellFormed = true ∧ encode i = w := by
  obtain ⟨hop, harg, hwf⟩ := fields_of_decodeFields h
  exact ⟨hwf, by rw [encode, ← hop, ← harg, joinFields_fields]⟩

/-- CLEAR_ERR has the one word 0x07000000 (R181). -/
theorem decode_eq_clearErr_iff {w : Word} : decode w = .command .clearErr ↔ w = 0x07000000 := by
  constructor
  · intro h
    exact (encode_of_decode h).2.symm
  · rintro rfl
    decide

namespace Machine

/-- The number of bits of a latched REVERSE is in the latch's argument (R84, R122). -/
theorem nbitsField_latch {s : State} {nbits : Nat} (h : decode (latchedWord s) = .command (.reverse nbits)) :
    (nbitsField s.latch.arg).toNat = nbits := by
  obtain ⟨hwf, he⟩ := encode_of_decode h
  have hlt : nbits < 2 ^ 7 := by simpa [Instr.wellFormed] using hwf
  have harg := congrArg argField he
  simp only [argField_encode, latchedWord, argField_joinFields, Instr.argument] at harg
  rw [← harg, nbitsField, BitVec.extractLsb'_toNat, BitVec.toNat_ofNat, Nat.shiftRight_zero]
  omega

/-- The byte of a latched BYTE is its operand's low byte (R83, R156). -/
theorem latchedByte_latch {s : State} {value : Nat} (h : decode (latchedWord s) = .command (.byte value)) :
    latchedByte s = value % 256 := by
  have harg := congrArg argField (encode_of_decode h).2
  simp only [argField_encode, latchedWord, argField_joinFields, Instr.argument] at harg
  rw [latchedByte, ← harg, BitVec.extractLsb'_toNat, BitVec.toNat_ofNat, Nat.shiftRight_zero]
  omega

/-- The opcode of a latched command is lat_op (R47). -/
theorem latch_op_eq {s : State} {i : Instr} (h : decode (latchedWord s) = .command i) : s.latch.op = i.opcode := by
  have := congrArg opField (encode_of_decode h).2
  simpa [latchedWord] using this.symm

end Machine

end Sys2Proof
end

section
/-! SUPPORT. The events of a step: a step is an acceptance, a completion, an error or none of them, and no two of
these at once. -/

namespace Sys2Proof.Machine

/-! ## Events exclude each other -/

/-- The HOST issues one word at a time. -/
theorem Issues.unique {s : State} {w w' : Word} (h : Issues s w) (h' : Issues s w') : w = w' := by
  simpa [Issues, issue] using h.symm.trans h'

/-- One word is issued at a time, so at most one command is accepted. -/
theorem Accepts.iff {s : State} {i j : Instr} (hi : Accepts s i) : Accepts s j ↔ j = i := by
  refine ⟨fun hj => ?_, fun hj => hj ▸ hi⟩
  obtain ⟨-, -, -, w, hw, hd⟩ := hi
  obtain ⟨-, -, -, w', hw', hd'⟩ := hj
  obtain rfl := hw.unique hw'
  exact Decoded.command.inj (hd'.symm.trans hd)

/-- The latch holds one command, so at most one completes. -/
theorem Completes.iff {s : State} {i j : Instr} (hi : Completes s i) : Completes s j ↔ j = i :=
  ⟨fun hj => Decoded.command.inj (hj.2.symm.trans hi.2), fun hj => hj ▸ hi⟩

/-- The first failing check decides the cause (R205). -/
theorem Raises.iff {s : State} {c d : ErrorCause} (hc : Raises s c) : Raises s d ↔ d = c := by
  refine ⟨fun hd => ?_, fun hd => hd ▸ hc⟩
  obtain ⟨-, -, w, hw, hc⟩ := hc
  obtain ⟨-, -, w', hw', hd⟩ := hd
  obtain rfl := hw.unique hw'
  rcases hc with ⟨⟨_, hi⟩, rfl⟩ | ⟨i, hi, hc⟩ <;> rcases hd with ⟨⟨_, hj⟩, rfl⟩ | ⟨j, hj, hd⟩
  · rfl
  · cases hi.symm.trans hj
  · cases hi.symm.trans hj
  · obtain rfl := Decoded.command.inj (hi.symm.trans hj)
    exact Option.some.inj (hd.symm.trans hc)

/-- An accepted command has no failing check (R101). -/
theorem Accepts.not_raises {s : State} {i : Instr} {c : ErrorCause} (hi : Accepts s i) : ¬ Raises s c := by
  obtain ⟨-, -, hn, w, hw, hd⟩ := hi
  rintro ⟨-, -, w', hw', hr⟩
  obtain rfl := hw.unique hw'
  rcases hr with ⟨⟨_, hj⟩, -⟩ | ⟨j, hj, hc⟩
  · cases hd.symm.trans hj
  · obtain rfl := Decoded.command.inj (hd.symm.trans hj)
    cases hn.symm.trans hc

/-- A completion needs BUSY = 1, an acceptance and an error BUSY = 0 (R101, R103). -/
theorem Completes.busy {s : State} {i : Instr} (h : Completes s i) : s.status.busy = true := h.1.1

theorem Completes.not_accepts {s : State} {i j : Instr} (hi : Completes s i) : ¬ Accepts s j :=
  fun hj => Bool.false_ne_true (hj.1.symm.trans hi.busy)

theorem Raises.not_accepts {s : State} {i : Instr} {c : ErrorCause} (hc : Raises s c) : ¬ Accepts s i :=
  fun hi => hi.not_raises hc

theorem Accepts.not_completes {s : State} {i j : Instr} (hi : Accepts s i) : ¬ Completes s j :=
  fun hj => hj.not_accepts hi

theorem Completes.not_raises {s : State} {i : Instr} {c : ErrorCause} (hi : Completes s i) : ¬ Raises s c :=
  fun hc => Bool.false_ne_true (hc.1.symm.trans hi.busy)

theorem Raises.not_completes {s : State} {i : Instr} {c : ErrorCause} (hc : Raises s c) : ¬ Completes s i :=
  fun hi => hi.not_raises hc

/-- A recorded cause is a real cause (R201). -/
theorem Raises.ne_noError {s : State} {c : ErrorCause} (h : Raises s c) : c ≠ .noError := by
  obtain ⟨-, -, w, -, ⟨-, rfl⟩ | ⟨i, -, hc⟩⟩ := h
  · exact ErrorCause.noConfusion
  · exact commandChecks_ne_noError hc

/-- A completion is a command in progress (R33). -/
theorem Completes.inProgress {s : State} {i : Instr} (h : Completes s i) : InProgress s i :=
  ⟨h.busy, (encode_of_decode h.2).2.symm⟩

/-- The checks of a command see the block alone. -/
theorem commandChecks_finishAccess (i : Instr) (r : Reply) (s : State) :
    commandChecks i (finishAccess r s) = commandChecks i s := by
  cases i <;> rfl

/-! ## What a step does -/

/-- The state after the acceptance of i (R101), the HOST's write finished; written out command by command below. -/
def accepted (i : Instr) (s : State) : State :=
  beginBusy (acceptanceEffects i (latchCommand i (finishAccess .written s)))

/-- The state after the completion of i (R103); written out command by command below. -/
def completed (i : Instr) (s : State) : State := completeCommand (completionEffects i) s

section
variable (s : State)

@[simp] theorem accepted_nop : accepted .nop s = beginBusy (latchCommand .nop (finishAccess .written s)) := rfl
@[simp] theorem accepted_configure : accepted .configure s =
    beginBusy (configureAcceptance (latchCommand .configure (finishAccess .written s))) := rfl
@[simp] theorem accepted_start : accepted .start s = beginBusy (latchCommand .start (finishAccess .written s)) := rfl
@[simp] theorem accepted_byte (value : Nat) : accepted (.byte value) s =
    beginBusy (latchCommand (.byte value) (finishAccess .written s)) := rfl
@[simp] theorem accepted_final : accepted .final s = beginBusy (latchCommand .final (finishAccess .written s)) := rfl
@[simp] theorem accepted_check : accepted .check s = beginBusy (latchCommand .check (finishAccess .written s)) := rfl
@[simp] theorem accepted_reverse (nbits : Nat) : accepted (.reverse nbits) s =
    beginBusy (snapshotOperand (latchCommand (.reverse nbits) (finishAccess .written s))) := rfl
@[simp] theorem accepted_clearErr : accepted .clearErr s =
    beginBusy (latchCommand .clearErr (finishAccess .written s)) := rfl

@[simp] theorem completed_nop : completed .nop s = endBusy s := rfl
@[simp] theorem completed_configure : completed .configure s = endBusy (configureCompletion s) := rfl
@[simp] theorem completed_start : completed .start s = endBusy (startCompletion s) := rfl
@[simp] theorem completed_byte (value : Nat) : completed (.byte value) s = endBusy (byteCompletion s) := rfl
@[simp] theorem completed_final : completed .final s = endBusy (finalCompletion s) := rfl
@[simp] theorem completed_check : completed .check s = endBusy (checkCompletion s) := rfl
@[simp] theorem completed_reverse (nbits : Nat) : completed (.reverse nbits) s = endBusy (reverseCompletion s) := rfl
@[simp] theorem completed_clearErr : completed .clearErr s = endBusy (clearError s) := rfl

end

/-- A spent turn makes no difference to a completion but in the schedule. -/
theorem completed_schedule (i : Instr) {s s' : State} (hs : s' = s ∨ s' = spendTurn s) :
    completed i s' =
      { completed i s with turns := s'.turns, choices := s'.choices, waited := s'.waited } := by
  rcases hs with rfl | rfl <;> cases i <;> rfl

/-- A spent turn makes no difference to a register write but in the schedule. -/
theorem writeReg_schedule (r : Reg) (d : Word) {s s' : State} (hs : s' = s ∨ s' = spendTurn s) :
    writeReg r d s' = { writeReg r d s with turns := s'.turns, choices := s'.choices, waited := s'.waited } := by
  rcases hs with rfl | rfl <;> cases r <;> rfl

/-- None of the three events happens in the next step: the ENGINE does not move, and no command is accepted or
refused. -/
structure NoEvent (s : State) : Prop where
  engine : ¬ EngineMoves s
  accepts : ∀ i, ¬ Accepts s i
  raises : ∀ cause, ¬ Raises s cause

/-- Without an ENGINE step there is no completion. -/
theorem NoEvent.completes {s : State} (h : NoEvent s) (i : Instr) : ¬ Completes s i := fun hc => h.engine hc.1

/-- The step from s to the given state by its event, over any change of the schedule's fields. Without an event the
block at most stores a register word (R65). -/
inductive StepEvent (s : State) : State → Prop where
  | accept (i : Instr) (h : Accepts s i) : StepEvent s (accepted i s)
  | complete (i : Instr) (h : Completes s i) (ts : List Agent) (c n : Nat) :
    StepEvent s { completed i s with turns := ts, choices := c, waited := n }
  | raise (cause : ErrorCause) (h : Raises s cause) : StepEvent s (raiseError cause (finishAccess .written s))
  | quiet (h : NoEvent s) (r : Reg) (d : Word) (l : List HostOp) (a : Reply) (ts : List Agent) (c n : Nat) :
    StepEvent s { writeReg r d s with host := l, reply := a, turns := ts, choices := c, waited := n }

/-- Where the HOST issues nothing and the ENGINE does not move there is no event. -/
theorem noEvent_of_host {s : State} (hi : ∀ w, ¬ Issues s w) (he : ¬ EngineMoves s) : NoEvent s :=
  ⟨he, fun _ ⟨_, _, _, w, hw, _⟩ => hi w hw, fun _ ⟨_, _, w, hw, _⟩ => hi w hw⟩

/-- The idle block (R215). -/
theorem noEvent_of_idle {s : State} (hh : s.host = []) (hb : s.status.busy = false) : NoEvent s :=
  noEvent_of_host (by simp [Issues, hh]) (by simp [EngineMoves, hb])

/-- A HOST access that is no CMD write. -/
theorem noEvent_of_hostAccesses {s : State} {op : HostOp} (h : HostAccesses s op) : NoEvent s := by
  obtain ⟨hop, hn, hturn⟩ := h
  refine noEvent_of_host (fun w hw => ?_) ?_
  · obtain rfl : issue s.params w = op := Option.some.inj (hw.symm.trans hop)
    simp at hn
  · rintro ⟨hb, hh | ⟨op', rest, hh, hc | ht⟩⟩
    · simp [hh] at hop
    · obtain rfl : op' = op := by simpa [hh] using hop
      simp [hn] at hc
    · simp [hb, ht] at hturn

/-- A word that ERROR = 1 discards is no event (R206). -/
theorem noEvent_of_discard {s : State} {w : Word} (hb : s.status.busy = false) (he : s.status.error = true)
    (hw : w ≠ 0x07000000) (hi : Issues s w) : NoEvent s := by
  refine ⟨fun h => Bool.false_ne_true (hb.symm.trans h.1), ?_, fun _ h => Bool.false_ne_true (h.2.1.symm.trans he)⟩
  rintro i ⟨-, herr, -, w', hi', hd⟩
  obtain rfl := hi.unique hi'
  rcases herr with herr | rfl
  · exact Bool.false_ne_true (herr.symm.trans he)
  · exact hw (decode_eq_clearErr_iff.mp hd)

/-- The acceptance of an issued word is an acceptance, an error, or (discarded) no event. -/
theorem stepEvent_of_acceptWord {s t : State} {w : Word} (hb : s.status.busy = false) (hi : Issues s w)
    (h : acceptWord w (finishAccess .written s) = .next t) : StepEvent s t := by
  rcases acceptWord_cases h with ⟨he, hw, rfl⟩ | ⟨he, hill, rfl⟩ | ⟨he, i, hd, hx⟩
  · exact .quiet (noEvent_of_discard hb he hw hi) .reserved 0 s.host.tail .written s.turns s.choices s.waited
  · refine .raise _ ⟨hb, ?_, w, hi, .inl ⟨hill, rfl⟩⟩
    rcases he with he | rfl
    · exact he
    · obtain ⟨why, hill⟩ := hill
      cases hill.symm.trans (decode_eq_clearErr_iff.mpr rfl)
  · rw [exec_idle (s := finishAccess .written s) i hb] at hx
    obtain rfl := Host.Outcome.next.inj hx
    have herr : s.status.error = false ∨ i = .clearErr := by
      refine he.imp id fun hw => ?_
      exact Decoded.command.inj (hd.symm.trans (decode_eq_clearErr_iff.mpr hw))
    rcases acceptCommand_cases i (finishAccess .written s) with
      ⟨⟨he', hne⟩, -⟩ | ⟨-, cause, hc, heq⟩ | ⟨-, hc, heq⟩
    · rcases herr with herr | rfl
      · exact absurd (herr.symm.trans he') Bool.false_ne_true
      · exact absurd rfl hne
    · rw [heq]
      rw [commandChecks_finishAccess] at hc
      refine .raise cause ⟨hb, herr.resolve_right ?_, w, hi, .inr ⟨i, hd, hc⟩⟩
      rintro rfl
      cases hc
    · rw [heq]
      rw [commandChecks_finishAccess] at hc
      exact .accept i ⟨hb, herr, hc, w, hi, hd⟩

/-- Every step is one of the four kinds (R100, R101, R103). -/
theorem step_event {s t : State} (h : step s = .next t) : StepEvent s t := by
  rcases step_cases h with
    ⟨hh, hb, rfl⟩ | ⟨hm, s', hs, i, hd, hx⟩ | ⟨hb, w, hi, ha⟩ | ⟨op, s', hs, hacc, hx⟩
  · exact .quiet (noEvent_of_idle hh hb) .reserved 0 t.host t.reply t.turns t.choices t.waited
  · have hc : Completes s i := ⟨hm, hd⟩
    have hp : InProgress s' i := by
      rcases hs with rfl | rfl <;> exact hc.inProgress
    have ht : completed i s' = t := Host.Outcome.next.inj ((exec_inProgress hp).symm.trans hx)
    rw [← ht, completed_schedule i hs]
    exact .complete i hc _ _ _
  · exact stepEvent_of_acceptWord hb hi ha
  · have hn : isCommandIssue s'.params op = false := by
      rcases hs with rfl | rfl <;> exact hacc.2.1
    obtain ⟨r, d, l, a, -, rfl⟩ := hostStep_cases hn hx
    rw [writeReg_schedule r d hs]
    exact .quiet (noEvent_of_hostAccesses hacc) r d l a _ _ _

end Sys2Proof.Machine
end

section
/-! SUPPORT. What the next step is, from the conditions on the state before it. -/

namespace Sys2Proof.Machine

/-- With BUSY = 0 the step of a CMD write is the acceptance of its word (R31, R101). -/
theorem step_issue {s : State} {w : Word} (hb : s.status.busy = false) (hi : Issues s w) :
    step s = acceptWord w (finishAccess .written s) := by
  obtain ⟨rest, hh⟩ := List.head?_eq_some_iff.mp hi
  simp only [step, advance, hh, hb, Bool.false_eq_true, if_false]
  exact hostStep_issue w s

/-- With BUSY = 0 the acceptance of a command's word is exec of the command, also where it is discarded (R206). -/
theorem acceptWord_command {s : State} {w : Word} {i : Instr} (hb : s.status.busy = false)
    (hd : decode w = .command i) : acceptWord w s = exec i s := by
  have hiff : w ≠ 0x07000000 ↔ i ≠ .clearErr := by
    rw [ne_eq, ← decode_eq_clearErr_iff, hd, Decoded.command.injEq]
  simp only [acceptWord, hd, exec_idle i hb, acceptCommand, hiff]
  split <;> rfl

/-- A command whose checks fail raises its cause (R101, R204). -/
theorem exec_of_failing {s : State} {i : Instr} {cause : ErrorCause} (hb : s.status.busy = false)
    (he : s.status.error = false) (hc : commandChecks i s = some cause) :
    exec i s = .next (raiseError cause s) := by
  simp [exec_idle i hb, acceptCommand, he, hc]

/-- While BUSY = 1 and the HOST's next operation is a CMD write, the ENGINE moves (R66, R100). -/
theorem engineMoves_of_issues {s : State} {w : Word} (hb : s.status.busy = true) (hi : Issues s w) :
    EngineMoves s := by
  obtain ⟨rest, hh⟩ := List.head?_eq_some_iff.mp hi
  exact ⟨hb, .inr ⟨_, rest, hh, .inl (isCommandIssue_issue _ _)⟩⟩

/-- Settles O6: the step of a CMD write is the acceptance of its word, which is exec of the command. -/
theorem stepRunsTheIssuedCommand : Obligations.StepRunsTheIssuedCommand := fun _ _ _ hb hi hd =>
  (step_issue hb hi).trans (acceptWord_command hb hd)

end Sys2Proof.Machine
end

section
/-! SUPPORT. The bits of a value register's two words (R30). -/

namespace Sys2Proof.Machine

@[simp] theorem testBit_mask (w k : Nat) : (mask w).testBit k = decide (k < w) := Nat.testBit_two_pow_sub_one w k

/-- A value fits exactly when its bits from that position on are 0. -/
theorem fits_iff {n : Nat} {v : Value} : fits n v ↔ ∀ k, n ≤ k → v.getLsbD k = false := by
  constructor
  · intro h k hk
    exact Nat.testBit_lt_two_pow (lt_of_lt_of_le h (Nat.pow_le_pow_right (by decide) hk))
  · intro h
    exact Nat.lt_pow_two_of_testBit _ h

/-- A register holds the low 64 bits of a number. -/
theorem getLsbD_toValue (n k : Nat) : (toValue n).getLsbD k = (decide (k < 64) && n.testBit k) :=
  BitVec.getLsbD_ofNat 64 n k

/-- The bits of a read of V_LO (R30). -/
theorem getLsbD_readHalf_lo (wmax : Nat) (v : Value) (k : Nat) :
    (readHalf wmax .lo v).getLsbD k = (decide (k < 32) && (decide (k < wmax) && v.getLsbD k)) := by
  rw [readHalf, BitVec.getLsbD_ofNat, Nat.testBit_mod_two_pow, BitVec.testBit_toNat]

/-- The bits of a read of V_HI (R30). -/
theorem getLsbD_readHalf_hi (wmax : Nat) (v : Value) (k : Nat) :
    (readHalf wmax .hi v).getLsbD k = (decide (k < 32) && (decide (32 + k < wmax) && v.getLsbD (32 + k))) := by
  rw [readHalf, BitVec.getLsbD_ofNat, Nat.testBit_shiftRight, Nat.testBit_mod_two_pow, BitVec.testBit_toNat]

/-- The bits of V after a write of V_LO (R30). -/
theorem getLsbD_writeHalf_lo (wmax : Nat) (d : Word) (v : Value) (k : Nat) :
    (writeHalf wmax .lo d v).getLsbD k =
      if k < 32 then decide (k < wmax) && d.getLsbD k else v.getLsbD k := by
  rw [writeHalf, getLsbD_toValue, Nat.testBit_or, Nat.testBit_and, Nat.testBit_shiftLeft, Nat.testBit_shiftRight,
    testBit_mask, BitVec.testBit_toNat, BitVec.testBit_toNat]
  by_cases hk : k < 32
  · have h64 : k < 64 := by omega
    have h32 : ¬ 32 ≤ k := by omega
    simp only [hk, h64, h32, lt_min_iff, decide_true, decide_false, Bool.true_and, Bool.false_and, Bool.false_or,
      true_and, if_true, Bool.and_comm]
  · have h32 : 32 ≤ k := by omega
    have hs : 32 + (k - 32) = k := by omega
    by_cases h64 : k < 64
    · simp only [hk, h64, h32, hs, lt_min_iff, decide_true, decide_false, Bool.true_and, Bool.and_false, Bool.or_false,
        false_and, if_false]
    · simp only [hk, h64, decide_false, Bool.false_and, if_false, BitVec.getLsbD_of_ge v k (not_lt.mp h64)]

/-- The bits of V after a write of V_HI, which is RAZ/WI when WMAX ≤ 32 (R30). -/
theorem getLsbD_writeHalf_hi (wmax : Nat) (d : Word) (v : Value) (k : Nat) :
    (writeHalf wmax .hi d v).getLsbD k =
      if 32 < wmax ∧ 32 ≤ k then decide (k < 64) && (decide (k < wmax) && d.getLsbD (k - 32)) else v.getLsbD k := by
  by_cases hw : 32 < wmax
  · rw [writeHalf, if_pos hw, getLsbD_toValue, Nat.testBit_or, Nat.testBit_and, Nat.testBit_shiftLeft,
      Nat.testBit_and, testBit_mask, testBit_mask, BitVec.testBit_toNat, BitVec.testBit_toNat]
    by_cases h32 : 32 ≤ k
    · have hk : ¬ k < 32 := by omega
      have hs : k - 32 < wmax - 32 ↔ k < wmax := by omega
      simp only [hw, h32, hk, hs, decide_true, decide_false, Bool.true_and, Bool.and_false, Bool.false_or,
        and_self, if_true, Bool.and_comm (d.getLsbD (k - 32))]
    · have hk : k < 32 := by omega
      have h64 : k < 64 := by omega
      simp only [h32, hk, h64, decide_true, decide_false, Bool.true_and, Bool.and_true, Bool.false_and, Bool.or_false,
        and_false, if_false]
  · rw [writeHalf, if_neg hw, if_neg (fun h => hw h.1)]

/-- A write keeps the bits at and above WMAX at 0 (R30). -/
theorem fits_writeHalf {wmax : Nat} {v : Value} (h : Half) (d : Word) (hv : fits wmax v) :
    fits wmax (writeHalf wmax h d v) := by
  rw [fits_iff] at hv ⊢
  intro k hk
  have hlt : ¬ k < wmax := by omega
  cases h
  · simp [getLsbD_writeHalf_lo, hlt, hv k hk]
  · simp [getLsbD_writeHalf_hi, hlt, hv k hk]

end Sys2Proof.Machine
end

section
/-! SUPPORT. The engine's values stay below 2^W (R121, R136, R163). -/

namespace Sys2Proof.Machine

/-- A reversed value fits the reversed bits (R121). -/
theorem reversedBits_lt (v n : Nat) : reversedBits v n < 2 ^ n := by
  refine Nat.lt_pow_two_of_testBit _ fun k hk => ?_
  simp [testBit_reversedBits, show ¬ k < n by omega]

/-- Any number of non-reflected bit steps stays below 2^W (R134). -/
theorem iterate_bitStepN_lt {w p r : Nat} (hp : p < 2 ^ w) (hr : r < 2 ^ w) (k : Nat) :
    (bitStepN w p)^[k] r < 2 ^ w :=
  Set.MapsTo.iterate (s := {r | r < 2 ^ w}) (fun r _ => bitStepN_lt r hp) k hr

/-- Any number of reflected bit steps stays below 2^W (R135). -/
theorem iterate_bitStepR_lt {w p r : Nat} (hp : p < 2 ^ w) (hr : r < 2 ^ w) (k : Nat) :
    (bitStepR p)^[k] r < 2 ^ w :=
  Set.MapsTo.iterate (s := {r | r < 2 ^ w}) (f := bitStepR p) (fun _ hr => bitStepR_lt hp hr) k hr

/-- A byte in the top bits of a register of W bits (R134). -/
theorem shiftLeft_byte_lt {w b : Nat} (hw : 8 ≤ w) (hb : b < 256) : b <<< (w - 8) < 2 ^ w := by
  have h : 2 ^ w = 256 * 2 ^ (w - 8) := by
    rw [show (256 : Nat) = 2 ^ 8 by rfl, ← pow_add]
    congr 1
    omega
  rw [Nat.shiftLeft_eq, h]
  exact Nat.mul_lt_mul_of_pos_right hb (by positivity)

/-- A byte is a value of W bits. -/
theorem byte_lt_two_pow {w b : Nat} (hw : 8 ≤ w) (hb : b < 256) : b < 2 ^ w :=
  lt_of_lt_of_le hb (Nat.pow_le_pow_right (n := 2) (by decide) hw)

/-- A table entry is a value of W bits (R136). -/
theorem genTable_lt {w p : Nat} (ri : Bool) {b : Nat} (hw : 8 ≤ w) (hp : p < 2 ^ w) (hb : b < 256) :
    genTable w p ri b < 2 ^ w := by
  cases ri
  · exact iterate_bitStepN_lt hp (shiftLeft_byte_lt hw hb) 8
  · exact iterate_bitStepR_lt hp (byte_lt_two_pow hw hb) 8

/-- The table index of the non-reflected step is a byte (R150). -/
theorem stepN_index_lt {w crc b : Nat} (hw : 8 ≤ w) (hc : crc < 2 ^ w) (hb : b < 256) :
    (crc >>> (w - 8)) ^^^ b < 256 := by
  refine Nat.xor_lt_two_pow (n := 8) ?_ hb
  rw [Nat.shiftRight_eq_div_pow, Nat.div_lt_iff_lt_mul (by positivity), ← pow_add]
  rwa [show 8 + (w - 8) = w by omega]

/-- The table index of the reflected step is a byte (R151). -/
theorem stepR_index_lt (crc b : Nat) : (crc ^^^ b) &&& 0xFF < 256 :=
  Nat.and_lt_two_pow (n := 8) _ (by decide)

/-- A byte step leaves a value of W bits (R150 to R152). -/
theorem byteStep_lt {v : Variant} {table : Nat → Nat} {crc b : Nat} (hw : 8 ≤ v.width)
    (ht : ∀ b, b < 256 → table b < 2 ^ v.width) (hc : crc < 2 ^ v.width) (hb : b < 256) :
    byteStep v table crc b < 2 ^ v.width := by
  unfold byteStep
  split
  · refine Nat.xor_lt_two_pow (lt_of_le_of_lt ?_ hc) (ht _ (stepR_index_lt crc b))
    exact Nat.shiftRight_le crc 8
  · exact Nat.xor_lt_two_pow (Nat.mod_lt _ (by positivity)) (ht _ (stepN_index_lt hw hc hb))

/-- A message of bytes leaves a value of W bits in the accumulator (R154). -/
theorem foldl_byteStep_lt {v : Variant} {table : Nat → Nat} (hw : 8 ≤ v.width)
    (ht : ∀ b, b < 256 → table b < 2 ^ v.width) {m : List Nat} (hm : ∀ b ∈ m, b < 256) {crc : Nat}
    (hc : crc < 2 ^ v.width) : m.foldl (byteStep v table) crc < 2 ^ v.width := by
  induction m generalizing crc with
  | nil => exact hc
  | cons b m ih =>
    exact ih (fun x hx => hm x (List.mem_cons_of_mem _ hx)) (byteStep_lt hw ht hc (hm b List.mem_cons_self))

/-- Finalisation leaves a value of W bits (R153). -/
theorem finalize_lt {v : Variant} {crc : Nat} (hx : v.xorout < 2 ^ v.width) (hc : crc < 2 ^ v.width) :
    finalize v crc < 2 ^ v.width := by
  refine Nat.xor_lt_two_pow ?_ hx
  split
  · exact reversedBits_lt crc v.width
  · exact hc

/-- The check message is made of bytes (R158). -/
theorem checkMessage_lt : ∀ b ∈ checkMessage, b < 256 := by decide

/-! ## The stored form -/

/-- Normalisation keeps a variant legal (R133). -/
theorem Variant.Legal.normalise {wmax : Nat} {v : Variant} (h : v.Legal wmax) :
    (Machine.normalise v).Legal wmax := by
  obtain ⟨h8, hw, hp, hi, hx⟩ := h
  unfold Machine.normalise
  split
  · exact ⟨h8, hw, reversedBits_lt _ _, reversedBits_lt _ _, hx⟩
  · exact ⟨h8, hw, hp, hi, hx⟩

/-- The stored registers hold the normalised numbers (R133, R137). -/
theorem numbers_stored {c : CrcConfig} {wmax : Nat} (hc : c.numbers.Legal wmax) (hw : wmax ≤ 64) :
    c.stored.numbers = normalise c.numbers := by
  obtain ⟨-, hle, hp, hi, -⟩ := hc.normalise
  have hle : (normalise c.numbers).width ≤ 64 := hle.trans hw
  have hpoly := toNat_toValue hp hle
  have hinit := toNat_toValue hi hle
  calc c.stored.numbers
      = { c.numbers with
          poly := (toValue (normalise c.numbers).poly).toNat
          init := (toValue (normalise c.numbers).init).toNat } := rfl
    _ = { c.numbers with poly := (normalise c.numbers).poly, init := (normalise c.numbers).init } := by
      rw [hpoly, hinit]
    _ = normalise c.numbers := by
      unfold normalise
      split <;> rfl

/-- The registers of a legal configuration fit WMAX bits. -/
theorem configFits_of_legal {wmax : Nat} {c : CrcConfig} (h : c.numbers.Legal wmax) : configFits wmax c := by
  obtain ⟨-, hw, hp, hi, hx⟩ := h
  have hle : 2 ^ c.numbers.width ≤ 2 ^ wmax := Nat.pow_le_pow_right (by decide) hw
  exact ⟨hp.trans_le hle, hi.trans_le hle, hx.trans_le hle⟩

/-- The entries of a built table are the generator's (R137). -/
theorem tableNumbers_buildTable {wmax : Nat} {v : Variant} (h : v.Legal wmax) (hw : wmax ≤ 64) {b : Nat}
    (hb : b < 256) : tableNumbers (buildTable v) b = genTable v.width v.poly v.reflectIn b := by
  obtain ⟨h8, hle, hp, -, -⟩ := h
  rw [tableNumbers, tableEntry_buildTable v hb]
  exact toNat_toValue (genTable_lt _ h8 hp hb) (hle.trans hw)

/-- TABLE is indexed by a byte (R60). -/
@[simp] theorem tableNumbers_mod (t : Table) (b : Nat) : tableNumbers t (b % 256) = tableNumbers t b := by
  simp [tableNumbers, tableEntry]

end Sys2Proof.Machine
end

section
/-! SUPPORT. What a command's checks establish when none of them fails (R205). -/

namespace Sys2Proof.Machine

/-- Validation passes exactly the legal variants (R10, R132). -/
theorem validate_eq_none_iff (wmax : Nat) (v : Variant) : validate wmax v = none ↔ v.Legal wmax := by
  simp [validate, firstFailing_eq_none, and_assoc]

theorem configureChecks_eq_none_iff (s : State) :
    configureChecks s = none ↔ s.status.isOpen = false ∧ s.cfg.numbers.Legal s.params.wmax := by
  rw [configureChecks, ← validate_eq_none_iff]
  cases s.status.isOpen <;> simp

theorem needsNoMessage_eq_none_iff (s : State) :
    needsNoMessage s = none ↔ s.status.configured = true ∧ s.status.isOpen = false := by
  simp [needsNoMessage, firstFailing_eq_none]

theorem needsMessage_eq_none_iff (s : State) :
    needsMessage s = none ↔ s.status.configured = true ∧ s.status.isOpen = true := by
  simp [needsMessage, firstFailing_eq_none]

theorem byteChecks_eq_none_iff (value : Nat) (s : State) :
    byteChecks value s = none ↔ s.status.configured = true ∧ s.status.isOpen = true ∧ value ≤ 0xFF := by
  simp [byteChecks, firstFailing_eq_none]

theorem reverseChecks_eq_none_iff (nbits : Nat) (s : State) :
    reverseChecks nbits s = none ↔ nbits ≤ s.params.wmax ∧ s.operand.toNat < 2 ^ nbits := by
  simp [reverseChecks, firstFailing_eq_none]

/-- An accepted command is ready to complete: its checks are what `Ready` asks. -/
theorem ready_accepted {i : Instr} {s : State} (hc : commandChecks i s = none) : Ready i (accepted i s) := by
  cases i with
  | nop => trivial
  | configure =>
    obtain ⟨ho, hl⟩ := (configureChecks_eq_none_iff s).mp hc
    exact ⟨ho, rfl, hl⟩
  | start => exact (needsNoMessage_eq_none_iff s).mp hc
  | byte value => exact (byteChecks_eq_none_iff value s).mp hc
  | final => exact (needsMessage_eq_none_iff s).mp hc
  | check => exact (needsNoMessage_eq_none_iff s).mp hc
  | reverse nbits => exact (reverseChecks_eq_none_iff nbits s).mp hc
  | clearErr => trivial

end Sys2Proof.Machine
end

section
/-! The invariant of R48: it holds at reset, and each kind of step keeps it. -/

namespace Sys2Proof.Machine

/-! ## What the invariant gives -/

/-- WMAX is at most 64 (R7). -/
theorem BlockInv.wmax_le {s : State} (h : BlockInv s) : s.params.wmax ≤ 64 := h.params.2.1

/-- While CONFIGURED = 1 the table's entries are values of act_width bits (R136). -/
theorem BlockInv.tableNumbers_lt {s : State} (h : BlockInv s) (hc : s.status.configured = true) {b : Nat}
    (hb : b < 256) : tableNumbers s.table b < 2 ^ s.act.width.toNat := by
  obtain ⟨h8, -, hp, -, -⟩ := h.active hc
  rw [h.table hc b hb]
  exact genTable_lt _ h8 hp hb

/-- A value of act_width bits fits in WMAX bits, and its register holds it. -/
theorem fits_toValue {n w wmax : Nat} (h : n < 2 ^ w) (hw : w ≤ wmax) (hm : wmax ≤ 64) : fits wmax (toValue n) := by
  rw [fits, toNat_toValue h (hw.trans hm)]
  exact h.trans_le (Nat.pow_le_pow_right (by decide) hw)

/-- The command in the latch is ready, and the block shows no error unless it is CLEAR_ERR. -/
theorem BlockInv.ready {s : State} {i : Instr} (h : BlockInv s) (hc : Completes s i) :
    (i = .clearErr ∨ s.status.error = false) ∧ Ready i s := by
  obtain ⟨j, hd, he, hr⟩ := h.busyLatch hc.busy
  obtain rfl := Decoded.command.inj (hd.symm.trans hc.2)
  exact ⟨he, hr⟩

/-! ## Steps keep it -/

/-- The invariant is about the block alone, so nothing the model adds to it matters. -/
theorem blockInv_of_blockOnly_eq {s t : State} (ht : blockOnly t = blockOnly s) (h : BlockInv s) : BlockInv t := by
  have hb : BlockInv (blockOnly s) := { h with registers := { h.registers with } }
  rw [← ht] at hb
  exact { hb with registers := { hb.registers with } }

/-- A register write keeps the bits at and above WMAX at 0 (R30). -/
theorem blockInv_writeReg {s : State} (r : Reg) (d : Word) (h : BlockInv s) : BlockInv (writeReg r d s) := by
  obtain ⟨hp, hi, hx⟩ := h.registers.staging
  cases r with
  | cfgWidth => exact { h with registers := { h.registers with } }
  | cfgFlags => exact { h with registers := { h.registers with } }
  | cfgPoly half =>
    exact { h with registers := { h.registers with staging := ⟨fits_writeHalf half d hp, hi, hx⟩ } }
  | cfgInit half =>
    exact { h with registers := { h.registers with staging := ⟨hp, fits_writeHalf half d hi, hx⟩ } }
  | cfgXorout half =>
    exact { h with registers := { h.registers with staging := ⟨hp, hi, fits_writeHalf half d hx⟩ } }
  | operand half =>
    exact { h with registers := { h.registers with operand := fits_writeHalf half d h.registers.operand } }
  | _ => exact h

/-- The error path closes the message and records a cause (R204). -/
theorem blockInv_raiseError {s : State} {cause : ErrorCause} (hb : s.status.busy = false) (hc : cause ≠ .noError)
    (h : BlockInv s) : BlockInv (raiseError cause s) :=
  { h with
    registers := { h.registers with }
    openConfigured := fun ho => nomatch ho
    openCrc := fun ho => nomatch ho
    errorCause := by simpa using hc
    errorClosed := fun _ => ⟨rfl, rfl⟩
    busyLatch := fun hb' => absurd (hb.symm.trans hb') Bool.false_ne_true }

/-- The latch after an acceptance holds the accepted command (R47, R101). -/
theorem latchedWord_accepted (i : Instr) (s : State) : latchedWord (accepted i s) = encode i := by
  cases i <;> exact latchedWord_latchCommand _ s

/-- An acceptance latches a command whose checks passed (R101). -/
theorem blockInv_accepted {s : State} {i : Instr} (ha : Accepts s i) (h : BlockInv s) : BlockInv (accepted i s) := by
  obtain ⟨-, he, hc, w, -, hd⟩ := ha
  have hlatch : (accepted i s).status.busy = true → ∃ j, decode (latchedWord (accepted i s)) = .command j ∧
      (j = .clearErr ∨ (accepted i s).status.error = false) ∧ Ready j (accepted i s) := by
    refine fun _ => ⟨i, ?_, ?_, ready_accepted hc⟩
    · rw [latchedWord_accepted, (encode_of_decode hd).2, hd]
    · cases i <;> exact he.symm
  cases i with
  | configure =>
    obtain ⟨ho, -⟩ := (configureChecks_eq_none_iff s).mp hc
    exact
      { h with
        registers := { h.registers with snapshot := h.registers.staging }
        active := fun hf => nomatch hf
        table := fun hf => nomatch hf
        openConfigured := fun hf => absurd (ho.symm.trans hf) Bool.false_ne_true
        errorClosed := fun hf => ⟨(h.errorClosed hf).1, rfl⟩
        busyLatch := hlatch }
  | reverse nbits =>
    exact { h with registers := { h.registers with snapshotOperand := h.registers.operand }, busyLatch := hlatch }
  | _ => exact { h with registers := { h.registers with }, busyLatch := hlatch }

/-- CONFIGURE's completion installs a legal configuration and its table (R137). -/
theorem blockInv_configureCompletion {s : State} (hr : Ready .configure s) (h : BlockInv s) :
    BlockInv (endBusy (configureCompletion s)) := by
  obtain ⟨ho, -, hl⟩ := hr
  have h64 := h.wmax_le
  have hn := numbers_stored hl h64
  have hlegal := hl.normalise
  have htable : ∀ b, b < 256 → tableNumbers (buildTable (normalise s.latch.cfg.numbers)) b =
      genTable s.latch.cfg.stored.numbers.width s.latch.cfg.stored.numbers.poly s.latch.cfg.stored.numbers.reflectIn
        b := by
    intro b hb
    rw [hn]
    exact tableNumbers_buildTable hlegal h64 hb
  rw [← hn] at hlegal
  have ⟨h8, hw, hp, _, _⟩ := hlegal
  have hentry : ∀ b, tableNumbers (buildTable (normalise s.latch.cfg.numbers)) b < 2 ^ s.params.wmax := by
    intro b
    have hb : b % 256 < 256 := Nat.mod_lt _ (by decide)
    rw [← tableNumbers_mod, htable _ hb]
    exact (genTable_lt _ h8 hp hb).trans_le (Nat.pow_le_pow_right (by decide) hw)
  exact
    { h with
      registers := { h.registers with active := configFits_of_legal hlegal, entries := hentry }
      active := fun _ => hlegal
      table := fun _ => htable
      openConfigured := fun _ => rfl
      openCrc := fun hf => absurd (ho.symm.trans hf) Bool.false_ne_true
      busyLatch := fun hf => nomatch hf }

/-- START's completion opens a message with act_init in crc (R155). -/
theorem blockInv_startCompletion {s : State} (he : s.status.error = false) (hr : Ready .start s) (h : BlockInv s) :
    BlockInv (endBusy (startCompletion s)) := by
  obtain ⟨hc, -⟩ := hr
  obtain ⟨-, -, -, hinit, -⟩ := h.active hc
  obtain ⟨-, hfits, -⟩ := h.registers.active
  exact
    { h with
      registers := { h.registers with working := hfits }
      openConfigured := fun _ => hc
      openCrc := fun _ => hinit
      errorClosed := fun hf => absurd (he.symm.trans hf) Bool.false_ne_true
      busyLatch := fun hf => nomatch hf }

/-- The latched byte is a byte (R156). -/
theorem latchedByte_lt (s : State) : latchedByte s < 256 := (s.latch.arg.extractLsb' 0 8).isLt

/-- BYTE's completion leaves a value of act_width bits in crc (R156). -/
theorem blockInv_byteCompletion {s : State} {value : Nat} (hr : Ready (.byte value) s) (h : BlockInv s) :
    BlockInv (endBusy (byteCompletion s)) := by
  obtain ⟨hc, ho, -⟩ := hr
  obtain ⟨h8, hw, -, -, -⟩ := h.active hc
  have hlt := byteStep_lt (v := s.act.numbers) h8 (fun _ => h.tableNumbers_lt hc) (h.openCrc ho) (latchedByte_lt s)
  exact
    { h with
      registers := { h.registers with working := fits_toValue hlt hw h.wmax_le }
      openCrc := fun _ => fits_toValue hlt le_rfl (hw.trans h.wmax_le)
      busyLatch := fun hf => nomatch hf }

/-- FINAL's completion leaves a value of act_width bits in RESULT and closes the message (R157). -/
theorem blockInv_finalCompletion {s : State} (he : s.status.error = false) (hr : Ready .final s) (h : BlockInv s) :
    BlockInv (endBusy (finalCompletion s)) := by
  obtain ⟨hc, ho⟩ := hr
  obtain ⟨-, hw, -, -, hx⟩ := h.active hc
  have hlt := finalize_lt (v := s.act.numbers) hx (h.openCrc ho)
  exact
    { h with
      registers := { h.registers with result := fits_toValue hlt hw h.wmax_le }
      openConfigured := fun hf => nomatch hf
      openCrc := fun hf => nomatch hf
      errorClosed := fun hf => absurd (he.symm.trans hf) Bool.false_ne_true
      busyLatch := fun hf => nomatch hf }

/-- A digest of bytes under the active configuration is a value of act_width bits (R163). -/
theorem BlockInv.calculate_lt {s : State} (h : BlockInv s) (hc : s.status.configured = true) {m : List Nat}
    (hm : ∀ b ∈ m, b < 256) : calculate s.act.numbers (tableNumbers s.table) m < 2 ^ s.act.width.toNat := by
  obtain ⟨h8, -, -, hi, hx⟩ := h.active hc
  exact finalize_lt hx (foldl_byteStep_lt h8 (fun _ => h.tableNumbers_lt hc) hm hi)

/-- CHECK's completion leaves a value of act_width bits in RESULT (R159). -/
theorem blockInv_checkCompletion {s : State} (he : s.status.error = false) (hr : Ready .check s) (h : BlockInv s) :
    BlockInv (endBusy (checkCompletion s)) := by
  obtain ⟨hc, -⟩ := hr
  obtain ⟨-, hw, -, -, -⟩ := h.active hc
  have hlt := h.calculate_lt hc checkMessage_lt
  exact
    { h with
      registers := { h.registers with result := fits_toValue hlt hw h.wmax_le }
      errorClosed := fun hf => absurd (he.symm.trans hf) Bool.false_ne_true
      busyLatch := fun hf => nomatch hf }

/-- REVERSE's completion leaves a value of NBITS bits in RESULT (R122). -/
theorem blockInv_reverseCompletion {s : State} {nbits : Nat} (he : s.status.error = false)
    (hn : (nbitsField s.latch.arg).toNat = nbits) (hr : Ready (.reverse nbits) s) (h : BlockInv s) :
    BlockInv (endBusy (reverseCompletion s)) :=
  { h with
    registers := { h.registers with result := fits_toValue (reversedBits_lt _ _) (hn.trans_le hr.1) h.wmax_le }
    errorClosed := fun hf => absurd (he.symm.trans hf) Bool.false_ne_true
    busyLatch := fun hf => nomatch hf }

/-- The completion of the command in the latch, whose checks passed at its acceptance (R103). -/
theorem blockInv_completed {s : State} {i : Instr} (hc : Completes s i) (h : BlockInv s) :
    BlockInv (completed i s) := by
  obtain ⟨he, hr⟩ := h.ready hc
  cases i with
  | nop => exact { h with registers := { h.registers with }, busyLatch := fun hf => nomatch hf }
  | configure => exact blockInv_configureCompletion hr h
  | start => exact blockInv_startCompletion (he.resolve_left Instr.noConfusion) hr h
  | byte value => exact blockInv_byteCompletion hr h
  | final => exact blockInv_finalCompletion (he.resolve_left Instr.noConfusion) hr h
  | check => exact blockInv_checkCompletion (he.resolve_left Instr.noConfusion) hr h
  | reverse nbits =>
    exact blockInv_reverseCompletion (he.resolve_left Instr.noConfusion) (nbitsField_latch hc.2) hr h
  | clearErr =>
    exact
      { h with
        registers := { h.registers with }
        errorCause := by simp
        errorClosed := fun hf => nomatch hf
        busyLatch := fun hf => nomatch hf }

/-- Every step keeps the invariant (R48). -/
theorem blockInv_step {s t : State} (h : BlockInv s) (hs : step s = .next t) : BlockInv t := by
  cases step_event hs with
  | accept i ha => exact blockInv_accepted ha h
  | complete i hc => exact blockInv_of_blockOnly_eq (s := completed i s) rfl (blockInv_completed hc h)
  | raise cause hr =>
    exact blockInv_raiseError hr.1 hr.ne_noError (blockInv_of_blockOnly_eq (s := s) rfl h)
  | quiet _ r d => exact blockInv_of_blockOnly_eq (s := writeReg r d s) rfl (blockInv_writeReg r d h)

/-! ## Reset -/

/-- The invariant holds right after reset (R48, R49). -/
theorem blockInv_afterReset {p : Params} (hp : p.Legal) : BlockInv (State.afterReset p) := by
  have hz : ∀ n, fits n 0 := fun n => Nat.two_pow_pos n
  have hcfg : configFits p.wmax CrcConfig.zero := ⟨hz _, hz _, hz _⟩
  exact
    { params := hp
      registers :=
        { staging := hcfg, operand := hz _, result := hz _, active := hcfg, working := hz _, snapshot := hcfg
          snapshotOperand := hz _
          entries := fun b => by simpa [State.afterReset, tableEntry] using hz p.wmax }
      active := fun hf => nomatch hf
      table := fun hf => nomatch hf
      openConfigured := fun hf => nomatch hf
      openCrc := fun hf => nomatch hf
      errorCause := ⟨fun _ => rfl, fun _ => rfl⟩
      errorClosed := fun hf => nomatch hf
      busyLatch := fun hf => nomatch hf }

/-! ## The statements -/

/-- Code 0 is the code of no cause (R201). -/
theorem code_eq_zero_iff (c : ErrorCause) : c.code = 0 ↔ c = .noError := by
  cases c <;> decide

/-- Settles O49: every element is 0 after reset, so nothing but the parameters has to be legal. -/
theorem resetMeetsTheInvariant : Obligations.ResetMeetsTheInvariant :=
  ⟨fun _ => blockInv_afterReset, blockInv_afterReset (by decide)⟩

/-- Settles O50: each of the four kinds of step keeps the invariant, and the five points are read off it. -/
theorem stepKeepsTheInvariant : Obligations.StepKeepsTheInvariant := by
  refine ⟨fun s t => blockInv_step, fun s h => ⟨h.openConfigured, fun hb => ?_, ?_, fun hc => ?_, h.openCrc⟩⟩
  · obtain ⟨i, hd, rfl | he, -⟩ := h.busyLatch hb
    · exact .inr (latch_op_eq hd)
    · exact .inl he
  · rw [code_eq_zero_iff]
    exact h.errorCause
  · obtain ⟨h8, hw, hp, hi, hx⟩ := h.active hc
    exact ⟨h8, hw, hp, hi, hx, fun b hb => ⟨h.table hc b hb, h.tableNumbers_lt hc hb⟩⟩

end Sys2Proof.Machine
end

section
/-! SUPPORT. The words of the registers (R23 to R43). -/

namespace Sys2Proof.Machine

/-! ## The map -/

/-- Above 0x05C the map is the TABLE window and the reserved ranges (R41, R43). -/
theorem regAt_eq_windowReg {off : Nat} (h : 0x060 ≤ off) : regAt off = windowReg off := by
  have hkeys : ∀ e ∈ registerMap, e.1 < 0x060 := by decide
  have hnone : registerMap.lookup off = none := by
    refine List.lookup_eq_none_iff.mpr fun e he => ?_
    have hne : off ≠ e.1 := by
      have hlt := hkeys e he
      omega
    simpa using hne
  rw [regAt, hnone, Option.getD_none]

/-- The low word of entry b (R41). -/
theorem regAt_table_lo {b : Nat} (hb : b < 256) : regAt (0x100 + 8 * b) = .table b .lo := by
  have hi : (0x100 + 8 * b - 0x100) / 8 = b := by omega
  rw [regAt_eq_windowReg (by omega), windowReg, if_pos (by omega), hi, if_pos (by omega)]

/-- The high word of entry b (R41). -/
theorem regAt_table_hi {b : Nat} (hb : b < 256) : regAt (0x104 + 8 * b) = .table b .hi := by
  have hi : (0x104 + 8 * b - 0x100) / 8 = b := by omega
  rw [regAt_eq_windowReg (by omega), windowReg, if_pos (by omega), hi, if_neg (by omega)]

/-- The reserved offsets (R43). -/
theorem regAt_eq_reserved_iff {off : Nat} (h : off < 4096) (ha : off % 4 = 0) :
    off = 0x00C ∨ off = 0x044 ∨ (0x060 ≤ off ∧ off ≤ 0x0FC) ∨ 0x900 ≤ off ↔ regAt off = .reserved := by
  rcases lt_or_ge off 0x060 with hlow | hhigh
  · have hrows : ∀ off, off < 0x060 → off % 4 = 0 → (regAt off = .reserved ↔ off = 0x00C ∨ off = 0x044) := by
      decide
    rw [hrows off hlow ha]
    omega
  · have hwin : windowReg off = .reserved ↔ ¬(0x100 ≤ off ∧ off < 0x900) := by
      unfold windowReg
      split <;> simp [*]
    rw [regAt_eq_windowReg hhigh, hwin]
    omega

/-- Writes to what is no RW register store nothing (R22, R65). -/
theorem writeReg_of_access_ne_rw {r : Reg} (h : r.access ≠ .rw) (d : Word) (s : State) : writeReg r d s = s := by
  cases r <;> simp [Reg.access, writeReg] at h ⊢

/-- WO and RAZ/WI locations read 0 (R22, R43). -/
theorem readReg_of_access {r : Reg} (h : r.access = .wo ∨ r.access = .razWi) (s : State) : readReg r s = 0 := by
  cases r <;> simp [Reg.access, readReg] at h ⊢

/-! ## Fields of a word -/

/-- A number has no bit at or above a position it stays below. -/
theorem getLsbD_of_toNat_lt {w n k : Nat} {x : BitVec w} (h : x.toNat < 2 ^ n) (hk : n ≤ k) : x.getLsbD k = false :=
  Nat.testBit_lt_two_pow (h.trans_le (Nat.pow_le_pow_right (by decide) hk))

/-- A legal WMAX fits PARAM (R7, R23). -/
theorem toNat_readReg_param {s : State} (h : s.params.Legal) : (readReg .param s).toNat = s.params.wmax := by
  have hw := h.2.1
  rw [readReg, BitVec.toNat_ofNat, Nat.mod_eq_of_lt (by omega)]

/-- CFG_WIDTH reads WIDTH with zeros above (R24). -/
theorem toNat_widthWord (c : CrcConfig) : (widthWord c).toNat = c.width.toNat := by
  simp only [widthWord, BitVec.toNat_append]
  simp

/-- CFG_FLAGS reads the two flags with zeros above (R25). -/
theorem toNat_flagsWord (c : CrcConfig) :
    (flagsWord c).toNat = (if c.reflectIn then 1 else 0) + (if c.reflectOut then 2 else 0) := by
  unfold flagsWord
  cases c.reflectIn <;> cases c.reflectOut <;> decide

/-- ACT_CFG while CONFIGURED = 1 (R39). -/
theorem toNat_actCfgWord (c : CrcConfig) :
    (actCfgWord c).toNat =
      c.width.toNat + (if c.reflectIn then 256 else 0) + (if c.reflectOut then 512 else 0) := by
  simp only [actCfgWord, BitVec.toNat_append]
  rw [← Nat.shiftLeft_add_eq_or_of_lt c.width.isLt]
  cases c.reflectIn <;> cases c.reflectOut <;> simp [Nat.add_comm]

/-- ACT_CFG's reserved bit below the flags (R39). -/
theorem getLsbD_actCfgWord_seven (c : CrcConfig) : (actCfgWord c).getLsbD 7 = false := by
  simp only [actCfgWord, BitVec.getLsbD_append]
  simp

/-- The bits of STATUS (R32). -/
theorem getLsbD_statusWord (st : Status) (k : Nat) :
    st.word.getLsbD k =
      if k = 0 then st.busy else if k = 1 then st.configured else if k = 2 then st.isOpen
      else if k = 3 then st.resultValid else if k = 4 then st.error
      else decide (8 ≤ k) && st.errCause.code.getLsbD (k - 8) := by
  simp only [Status.word, BitVec.getLsbD_append, BitVec.getLsbD_ofBool, BitVec.getLsbD_zero]
  rcases lt_or_ge k 8 with hk | hk
  · interval_cases k <;> simp
  · obtain ⟨j, rfl⟩ := Nat.exists_eq_add_of_le' hk
    simpa using BitVec.lt_of_getLsbD

/-- The reserved bits of STATUS (R32, R43). -/
theorem getLsbD_statusWord_reserved (st : Status) {k : Nat} (hk : 5 ≤ k ∧ k ≤ 7 ∨ 12 ≤ k) :
    st.word.getLsbD k = false := by
  have hflags : k ≠ 0 ∧ k ≠ 1 ∧ k ≠ 2 ∧ k ≠ 3 ∧ k ≠ 4 := by omega
  obtain ⟨h0, h1, h2, h3, h4⟩ := hflags
  rw [getLsbD_statusWord, if_neg h0, if_neg h1, if_neg h2, if_neg h3, if_neg h4]
  rcases hk with hk | hk
  · simp [show ¬ 8 ≤ k by omega]
  · simp [BitVec.getLsbD_of_ge st.errCause.code (k - 8) (by omega)]

/-- The ERR_CAUSE field of STATUS (R32). -/
theorem errCause_statusWord (st : Status) : st.word.extractLsb' 8 4 = st.errCause.code := by
  refine BitVec.eq_of_getLsbD_eq fun k hk => ?_
  rw [BitVec.getLsbD_extractLsb', getLsbD_statusWord]
  simp [hk, show 8 + k ≠ 0 ∧ 8 + k ≠ 1 ∧ 8 + k ≠ 2 ∧ 8 + k ≠ 3 ∧ 8 + k ≠ 4 by omega]

/-- The codes 0xC to 0xF are never reported (R201, U13). -/
theorem code_le (c : ErrorCause) : c.code.toNat ≤ 0xB := by
  cases c <;> decide

/-- While CONFIGURED = 0 a gated read is 0 (R42). -/
theorem gated_unconfigured {s : State} (hc : s.status.configured = false) (w : Word) : gated s w = 0 := by
  simp [gated, hc]

/-- While CONFIGURED = 1 a gated read is the word (R42). -/
theorem gated_configured {s : State} (hc : s.status.configured = true) (w : Word) : gated s w = w := by
  simp [gated, hc]

/-! ## Value registers -/

/-- V after a write of V_LO, as R30 writes it. -/
theorem toNat_writeHalf_lo (wmax : Nat) (d : Word) (v : Value) :
    (writeHalf wmax .lo d v).toNat = ((v.toNat >>> 32) <<< 32) ||| (d.toNat &&& mask (min 32 wmax)) := by
  refine toNat_toValue (w := 64) (Nat.or_lt_two_pow ?_ ?_) le_rfl
  · rw [Nat.shiftRight_eq_div_pow, Nat.shiftLeft_eq]
    exact (Nat.div_mul_le_self _ _).trans_lt v.isLt
  · exact Nat.and_le_left.trans_lt (d.isLt.trans (by decide))

/-- V after a write of V_HI, as R30 writes it. -/
theorem toNat_writeHalf_hi (wmax : Nat) (d : Word) (v : Value) :
    (writeHalf wmax .hi d v).toNat =
      if wmax > 32 then (v.toNat &&& mask 32) ||| ((d.toNat &&& mask (wmax - 32)) <<< 32) else v.toNat := by
  rw [writeHalf]
  split
  · refine toNat_toValue (w := 64) (Nat.or_lt_two_pow (Nat.and_le_left.trans_lt v.isLt) ?_) le_rfl
    have hd : d.toNat &&& mask (wmax - 32) < 2 ^ 32 := Nat.and_le_left.trans_lt d.isLt
    rw [Nat.shiftLeft_eq]
    omega
  · rfl

/-- A read of V_LO gives V[31:0] (R30). -/
theorem toNat_readHalf_lo {wmax : Nat} {v : Value} (h : fits wmax v) :
    (readHalf wmax .lo v).toNat = v.toNat % 2 ^ 32 := by
  rw [readHalf, BitVec.toNat_ofNat, Nat.mod_eq_of_lt h]

/-- A read of V_HI gives V[63:32] (R30). -/
theorem toNat_readHalf_hi {wmax : Nat} {v : Value} (h : fits wmax v) :
    (readHalf wmax .hi v).toNat = v.toNat >>> 32 := by
  have hv := v.isLt
  rw [readHalf, BitVec.toNat_ofNat, Nat.mod_eq_of_lt (a := v.toNat) h, Nat.shiftRight_eq_div_pow]
  omega

/-- A write of one half leaves the other half's reads as they were (R30). -/
theorem readHalf_writeHalf_of_ne {h h' : Half} (hne : h' ≠ h) (wmax : Nat) (d : Word) (v : Value) :
    readHalf wmax h' (writeHalf wmax h d v) = readHalf wmax h' v := by
  refine BitVec.eq_of_getLsbD_eq fun k hk => ?_
  cases h <;> cases h'
  · exact absurd rfl hne
  · rw [getLsbD_readHalf_hi, getLsbD_readHalf_hi, getLsbD_writeHalf_lo, if_neg (by omega)]
  · rw [getLsbD_readHalf_lo, getLsbD_readHalf_lo, getLsbD_writeHalf_hi, if_neg (by omega)]
  · exact absurd rfl hne

end Sys2Proof.Machine
end

section
/-! SUPPORT. The step of a word access in the window that is no CMD write (R64, R65). -/

namespace Sys2Proof.Machine

/-- A HOST access is the HOST's step, over a spent turn where the ENGINE could have moved too (R100). -/
theorem step_hostAccesses {s : State} {op : HostOp} (h : HostAccesses s op) :
    ∃ s', (s' = s ∨ s' = spendTurn s) ∧ step s = hostStep op s' := by
  obtain ⟨hop, hn, hturn⟩ := h
  obtain ⟨rest, hh⟩ := List.head?_eq_some_iff.mp hop
  cases hb : s.status.busy
  · exact ⟨s, .inl rfl, by simp [step, advance, hh, hb]⟩
  · have ht : nextTurn s = .host := by simpa [hb] using hturn
    exact ⟨spendTurn s, .inr rfl, by simp [step, advance, hh, hb, hn, ht]⟩

/-- A register's value is the block's alone. -/
theorem readReg_schedule {s s' : State} (hs : s' = s ∨ s' = spendTurn s) (r : Reg) :
    readReg r s' = readReg r s := by
  rcases hs with rfl | rfl <;> cases r <;> rfl

/-- A word read answers the register's value and leaves the block (R64). -/
theorem step_read {s : State} {off : Nat} (h : off < 4096) (ha : off % 4 = 0)
    (hacc : HostAccesses s (.read (s.params.base + off) .word)) :
    ∃ t, step s = .next t ∧ t.reply = .data (readReg (regAt off) s) ∧ t.host = s.host.tail ∧
      blockOnly t = blockOnly s := by
  obtain ⟨s', hs, hstep⟩ := step_hostAccesses hacc
  have hp : s'.params = s.params := by rcases hs with rfl | rfl <;> rfl
  refine ⟨finishAccess (.data (readReg (regAt off) s)) s', ?_, rfl, ?_, ?_⟩
  · rw [hstep, hostStep, hostRead, hp, select_word h ha, ← readReg_schedule hs]
  · rcases hs with rfl | rfl <;> rfl
  · rcases hs with rfl | rfl <;> rfl

/-- A write that reaches a register other than CMD (R65). -/
theorem hostWrite_register {addr : Nat} {size : AccessSize} {s : State} {r : Reg}
    (hsel : select s.params addr size = .register r) (hn : r ≠ .cmd) (d : Word) :
    hostWrite addr size d s = .next (writeReg r d (finishAccess .written s)) := by
  rw [hostWrite, hsel]
  cases r with
  | cmd => exact absurd rfl hn
  | _ => rfl

/-- A word write to a register other than CMD stores in the register (R65). -/
theorem step_write {s : State} {off : Nat} {d : Word} (h : off < 4096) (ha : off % 4 = 0) (hn : regAt off ≠ .cmd)
    (hacc : HostAccesses s (.write (s.params.base + off) .word d)) :
    ∃ t, step s = .next t ∧ t.reply = .written ∧ t.host = s.host.tail ∧
      blockOnly t = blockOnly (writeReg (regAt off) d s) := by
  obtain ⟨s', hs, hstep⟩ := step_hostAccesses hacc
  have hp : s'.params = s.params := by rcases hs with rfl | rfl <;> rfl
  refine ⟨writeReg (regAt off) d (finishAccess .written s'), ?_, ?_, ?_, ?_⟩
  · rw [hstep, ← hp, hostStep]
    exact hostWrite_register (select_word h ha) hn d
  · simp
  · rcases hs with rfl | rfl <;> simp
  · rcases hs with rfl | rfl <;> cases regAt off <;> rfl

end Sys2Proof.Machine
end

section
/-! The register window. -/

namespace Sys2Proof.Machine

/-- Right after reset every register but PARAM reads 0 (R22, R49). -/
theorem readReg_afterReset (p : Params) (r : Reg) :
    readReg r (State.afterReset p) = if r = .param then BitVec.ofNat 32 p.wmax else 0 := by
  have hvalue : ∀ h, readHalf p.wmax h 0 = 0 := by
    intro h
    cases h <;> simp [readHalf]
  have hgated : ∀ w, gated (State.afterReset p) w = 0 := gated_unconfigured rfl
  by_cases hr : r = .param
  · rw [if_pos hr, hr]
    rfl
  · rw [if_neg hr]
    cases r with
    | param => exact absurd rfl hr
    | cfgWidth => exact (by decide : widthWord CrcConfig.zero = 0)
    | cfgFlags => exact (by decide : flagsWord CrcConfig.zero = 0)
    | cmd => rfl
    | status => exact (by decide : Status.reset.word = 0)
    | reserved => rfl
    | cfgPoly h => exact hvalue h
    | cfgInit h => exact hvalue h
    | cfgXorout h => exact hvalue h
    | operand h => exact hvalue h
    | result h => exact hvalue h
    | _ => exact hgated _

/-- Settles O15: the rows by computation, the TABLE window and the reserved ranges by arithmetic on the offset. -/
theorem registerMapOffsets : Obligations.RegisterMapOffsets := by
  refine ⟨fun p off => select_word, fun p addr size h => if_neg h, ?_⟩
  refine ⟨rfl, rfl, rfl, rfl, rfl, rfl, rfl, rfl, rfl, rfl, rfl, rfl, rfl, rfl, rfl, rfl, rfl, rfl, rfl, rfl, rfl,
    rfl, ?_⟩
  exact ⟨fun b hb => ⟨regAt_table_lo hb, regAt_table_hi hb⟩, fun off => regAt_eq_reserved_iff,
    fun h => ⟨rfl, rfl, rfl, rfl, rfl, rfl⟩, fun h b => ⟨rfl, rfl, rfl, rfl, rfl, rfl, rfl, rfl⟩, rfl, rfl,
    readReg_afterReset, fun s d r h => writeReg_of_access_ne_rw h d s, fun s r h => readReg_of_access h s⟩

/-- The reserved bits of the defined registers read 0 (R43). -/
theorem getLsbD_readReg_reserved (s : State) (k : Nat) :
    (7 ≤ k → (readReg .cfgWidth s).getLsbD k = false) ∧
    (2 ≤ k → (readReg .cfgFlags s).getLsbD k = false) ∧
    (5 ≤ k ∧ k ≤ 7 ∨ 12 ≤ k → (readReg .status s).getLsbD k = false) ∧
    (k = 7 ∨ 10 ≤ k → (readReg .actCfg s).getLsbD k = false) ∧
    (7 ≤ k → s.params.Legal → (readReg .param s).getLsbD k = false) := by
  refine ⟨fun hk => ?_, fun hk => ?_, fun hk => ?_, fun hk => ?_, fun hk hl => ?_⟩
  · exact getLsbD_of_toNat_lt (n := 7) ((toNat_widthWord s.cfg).trans_lt s.cfg.width.isLt) hk
  · refine getLsbD_of_toNat_lt (n := 2) ((toNat_flagsWord s.cfg).trans_lt ?_) hk
    cases s.cfg.reflectIn <;> cases s.cfg.reflectOut <;> decide
  · exact getLsbD_statusWord_reserved s.status hk
  · cases hc : s.status.configured
    · simp [readReg, gated_unconfigured hc]
    · rw [readReg, gated_configured hc]
      rcases hk with rfl | hk
      · exact getLsbD_actCfgWord_seven s.act
      · refine getLsbD_of_toNat_lt (n := 10) ?_ hk
        have hw := s.act.width.isLt
        rw [toNat_actCfgWord]
        split <;> split <;> omega
  · have hw := hl.2.1
    refine getLsbD_of_toNat_lt (n := 7) ?_ hk
    rw [toNat_readReg_param hl]
    omega

/-- A write stores WIDTH alone (R24, R43). -/
theorem writeReg_cfgWidth_congr {s : State} {d d' : Word} (h : ∀ k, k < 7 → d.getLsbD k = d'.getLsbD k) :
    writeReg .cfgWidth d s = writeReg .cfgWidth d' s := by
  have hw : d.extractLsb' 0 7 = d'.extractLsb' 0 7 := by
    refine BitVec.eq_of_getLsbD_eq fun k hk => ?_
    simp [hk, h k hk]
  rw [writeReg, writeReg, hw]

/-- A write stores the two flags alone (R25, R43). -/
theorem writeReg_cfgFlags_congr {s : State} {d d' : Word} (h : ∀ k, k < 2 → d.getLsbD k = d'.getLsbD k) :
    writeReg .cfgFlags d s = writeReg .cfgFlags d' s := by
  rw [writeReg, writeReg, h 0 (by decide), h 1 (by decide)]

/-- Settles O16: a reserved offset is read and written like any other register word, and stores nothing. -/
theorem reservedLocationsReadZeroAndIgnoreWrites : Obligations.ReservedLocationsReadZeroAndIgnoreWrites := by
  refine ⟨fun off => regAt_eq_reserved_iff, fun s d => ⟨rfl, rfl⟩,
    fun s off d h ha hr => ⟨fun hacc => ?_, fun hacc => ?_⟩, getLsbD_readReg_reserved,
    fun s d d' => ⟨writeReg_cfgWidth_congr, writeReg_cfgFlags_congr⟩⟩
  · obtain ⟨t, ht, hreply, -, hblock⟩ := step_read h ha hacc
    rw [hr] at hreply
    exact ⟨t, ht, hreply, hblock⟩
  · obtain ⟨t, ht, hreply, -, hblock⟩ := step_write h ha (by simp [hr]) hacc
    rw [hr] at hblock
    exact ⟨t, ht, hreply, hblock⟩

/-- Settles O18: WIDTH = 0 is below 8, the first thing CONFIGURE's validation asks. -/
theorem cfgWidthAndFlagsKeepTheirFields : Obligations.CfgWidthAndFlagsKeepTheirFields := by
  refine ⟨rfl, rfl, fun s d => ⟨?_, toNat_widthWord s.cfg, rfl, toNat_flagsWord s.cfg⟩,
    fun p => ⟨readReg_afterReset p .cfgWidth, readReg_afterReset p .cfgFlags⟩,
    fun s hb he ho hw => exec_of_failing hb he ?_⟩
  · have hd : d.extractLsb' 0 7 = BitVec.ofNat 7 (d.toNat % 128) := BitVec.eq_of_toNat_eq (by simp)
    rw [writeReg, hd]
  · simp [commandChecks, configureChecks, validate, firstFailing, CrcConfig.numbers, ho, hw]

/-- Settles O19: the two words of every value register are written and read by the same two functions. -/
theorem valueRegistersComposeTheirWords : Obligations.ValueRegistersComposeTheirWords := by
  refine ⟨fun s d _ _ => ?_, fun wmax v hv => ⟨toNat_readHalf_lo hv, toNat_readHalf_hi hv, fun hw => ?_⟩,
    fun wmax v k => ⟨fun hk => ?_, fun hk => ?_⟩, fun s h => ⟨rfl, rfl, rfl, rfl, rfl, fun hc => ?_⟩⟩
  · have hlo := toNat_writeHalf_lo s.params.wmax d
    have hhi := toNat_writeHalf_hi s.params.wmax d
    exact ⟨⟨hlo _, hhi _⟩, ⟨hlo _, hhi _⟩, ⟨hlo _, hhi _⟩, ⟨hlo _, hhi _⟩⟩
  · refine BitVec.eq_of_getLsbD_eq fun k _ => ?_
    simp [getLsbD_readHalf_hi, show ¬ 32 + k < wmax by omega]
  · simp [getLsbD_readHalf_lo, show ¬ k < wmax by omega]
  · simp [getLsbD_readHalf_hi, show ¬ 32 + k < wmax by omega]
  · exact ⟨gated_configured hc _, gated_configured hc _, gated_configured hc _, fun _ => gated_configured hc _⟩

/-- A write leaves every other register's word (R24 to R30, R65). -/
theorem readReg_writeReg_of_ne {r r' : Reg} (hne : r' ≠ r) (d : Word) (s : State) :
    readReg r' (writeReg r d s) = readReg r' s := by
  cases r with
  | cfgWidth =>
    cases r' with
    | cfgWidth => exact absurd rfl hne
    | _ => rfl
  | cfgFlags =>
    cases r' with
    | cfgFlags => exact absurd rfl hne
    | _ => rfl
  | cfgPoly h =>
    cases r' with
    | cfgPoly h' => exact readHalf_writeHalf_of_ne (by simpa using hne) _ _ _
    | _ => rfl
  | cfgInit h =>
    cases r' with
    | cfgInit h' => exact readHalf_writeHalf_of_ne (by simpa using hne) _ _ _
    | _ => rfl
  | cfgXorout h =>
    cases r' with
    | cfgXorout h' => exact readHalf_writeHalf_of_ne (by simpa using hne) _ _ _
    | _ => rfl
  | operand h =>
    cases r' with
    | operand h' => exact readHalf_writeHalf_of_ne (by simpa using hne) _ _ _
    | _ => rfl
  | _ => rfl

/-- Settles O20: two registers share no bit. -/
theorem writesLeaveEveryOtherRegisterAlone : Obligations.WritesLeaveEveryOtherRegisterAlone := fun s r r' d =>
  ⟨fun hne => readReg_writeReg_of_ne hne d s,
    (writeReg r d s).cfg, (writeReg r d s).operand, by cases r <;> rfl⟩

/-- Settles O21, from the bits of the STATUS word and the codes of the causes. -/
theorem statusWordHoldsItsFields : Obligations.StatusWordHoldsItsFields := by
  refine ⟨rfl, rfl, ⟨rfl, rfl, rfl, rfl, rfl, rfl, rfl, rfl, rfl, rfl, rfl, rfl⟩, fun s => ?_, fun s h => ?_,
    fun s d => ?_⟩
  · rw [readReg, errCause_statusWord]
    exact code_le s.status.errCause
  · rw [readReg, errCause_statusWord, code_eq_zero_iff]
    exact h.errorCause
  · have hbit := getLsbD_statusWord s.status
    refine ⟨hbit 0, hbit 1, hbit 2, hbit 3, hbit 4, errCause_statusWord s.status, ?_, ?_, rfl⟩
    · refine BitVec.eq_of_getLsbD_eq fun k hk => ?_
      simp [readReg, getLsbD_statusWord_reserved s.status (k := 5 + k) (by omega)]
    · refine BitVec.eq_of_getLsbD_eq fun k hk => ?_
      simp [readReg, getLsbD_statusWord_reserved s.status (k := 12 + k) (by omega)]

/-- Settles O22: the gated words, at the offsets the map gives them. -/
theorem actCfgAndTableReadback : Obligations.ActCfgAndTableReadback := by
  intro s d b hb hfit
  rw [regAt_table_lo hb, regAt_table_hi hb]
  refine ⟨fun hc => ?_, fun hc => ?_, rfl, rfl, rfl⟩
  · have hentry := hfit.entries b
    exact ⟨(congrArg BitVec.toNat (gated_configured hc _)).trans (toNat_actCfgWord s.act),
      (congrArg BitVec.toNat (gated_configured hc _)).trans (toNat_readHalf_lo hentry),
      (congrArg BitVec.toNat (gated_configured hc _)).trans (toNat_readHalf_hi hentry)⟩
  · exact ⟨gated_unconfigured hc _, gated_unconfigured hc _, gated_unconfigured hc _⟩

end Sys2Proof.Machine
end

section
/-! The events that write each element of the block. Every proof goes through the four kinds of step of `step_event`;
in each of them the events are decided, and the state after the step is written out command by command. -/

namespace Sys2Proof.Machine

/-! ## What no event or only CONFIGURE's completion writes -/

/-- No step changes the parameters (R7, R8). -/
theorem step_params {s t : State} (h : step s = .next t) : t.params = s.params := by
  cases step_event h with
  | accept i _ => cases i <;> rfl
  | complete i _ => cases i <;> rfl
  | raise _ _ => rfl
  | quiet _ r d => exact writeReg_params s r d

/-- A step that completes no CONFIGURE leaves the active configuration and TABLE (R139). -/
theorem step_active {s t : State} (h : step s = .next t) (hn : ¬ Completes s .configure) :
    t.act = s.act ∧ t.table = s.table := by
  cases step_event h with
  | accept i _ => cases i <;> exact ⟨rfl, rfl⟩
  | complete i hc =>
    cases i with
    | configure => exact absurd hc hn
    | _ => exact ⟨rfl, rfl⟩
  | raise _ _ => exact ⟨rfl, rfl⟩
  | quiet _ r d => exact ⟨writeReg_act s r d, writeReg_table s r d⟩

/-! ## STATUS -/

/-- The part of R33 about steps. -/
theorem step_busy {s t : State} (h : step s = .next t) :
    (∀ i, Accepts s i → t.status.busy = true) ∧
    (∀ i, Completes s i → t.status.busy = false) ∧
    ((¬ ∃ i, Accepts s i) → (¬ ∃ i, Completes s i) → t.status.busy = s.status.busy) := by
  cases step_event h with
  | accept i ha => cases i <;> simp [ha.iff, ha.not_completes]
  | complete i hc => cases i <;> simp [hc.iff, hc.not_accepts]
  | raise _ hr => simp [hr.not_accepts, hr.not_completes]
  | quiet hn => simp [hn.accepts, hn.completes]

/-- A held CMD write stays where it is, unanswered (R66). -/
theorem step_held {s t : State} {w : Word} (h : step s = .next t) (hb : s.status.busy = true) (hi : Issues s w) :
    t.host = s.host ∧ t.reply = s.reply := by
  cases step_event h with
  | accept i ha => exact absurd (ha.1.symm.trans hb) Bool.false_ne_true
  | complete i _ => cases i <;> exact ⟨rfl, rfl⟩
  | raise _ hr => exact absurd (hr.1.symm.trans hb) Bool.false_ne_true
  | quiet hn => exact absurd (engineMoves_of_issues hb hi) hn.engine

/-- Settles O39: the events of BUSY, and the CMD write it holds back. -/
theorem busyChangesOnlyOnItsEvents : Obligations.BusyChangesOnlyOnItsEvents :=
  ⟨fun _ _ => step_busy, fun _ _ _ => step_held, fun _ => rfl, fun s => getLsbD_statusWord s.status 0⟩

/-- The part of R37 about the events of a step. -/
theorem step_error {s t : State} (h : step s = .next t) :
    (∀ cause, Raises s cause → t.status.error = true ∧ t.status.errCause = cause) ∧
    (Completes s .clearErr → t.status.error = false ∧ t.status.errCause = .noError) ∧
    ((¬ ∃ cause, Raises s cause) → ¬ Completes s .clearErr →
      t.status.error = s.status.error ∧ t.status.errCause = s.status.errCause) := by
  cases step_event h with
  | accept i ha => cases i <;> simp [ha.not_completes, ha.not_raises]
  | complete i hc => cases i <;> simp [hc.iff, hc.not_raises]
  | raise _ hr => simp [hr.iff, hr.not_completes]
  | quiet hn => simp [hn.completes, hn.raises]

/-- Settles O38: the last two points follow from the events, because an error is raised only while ERROR = 0. -/
theorem errorAndCauseChangeOnlyOnTheirEvents : Obligations.ErrorAndCauseChangeOnlyOnTheirEvents := by
  refine ⟨fun s t h => ?_, fun s => ⟨rfl, rfl⟩⟩
  obtain ⟨hraise, hclear, hother⟩ := step_error h
  refine ⟨hraise, hclear, hother, ?_⟩
  by_cases hr : ∃ cause, Raises s cause
  · obtain ⟨cause, hr⟩ := hr
    obtain ⟨he, rfl⟩ := hraise cause hr
    have hne := hr.ne_noError
    exact ⟨fun _ => by simp [he, hne], fun hs => absurd (hr.2.1.symm.trans hs) Bool.false_ne_true⟩
  · by_cases hc : Completes s .clearErr
    · obtain ⟨he, hcause⟩ := hclear hc
      exact ⟨fun _ => by simp [he, hcause], fun _ ht => absurd (he.symm.trans ht) Bool.false_ne_true⟩
    · obtain ⟨he, hcause⟩ := hother hr hc
      exact ⟨fun hs => by rwa [he, hcause], fun _ _ => hcause⟩

/-- The part of R34 about steps. -/
theorem step_configured {s t : State} (h : step s = .next t) :
    (Accepts s .configure → t.status.configured = false) ∧
    (Completes s .configure → t.status.configured = true) ∧
    (¬ Accepts s .configure → ¬ Completes s .configure → t.status.configured = s.status.configured) := by
  cases step_event h with
  | accept i ha => cases i <;> simp [ha.iff, ha.not_completes]
  | complete i hc => cases i <;> simp [hc.iff, hc.not_accepts]
  | raise _ hr => simp [hr.not_accepts, hr.not_completes]
  | quiet hn => simp [hn.accepts, hn.completes]

/-- Without a configuration the four digest commands fail (R34). -/
theorem digestChecks_notConfigured {s : State} {i : Instr} (hc : s.status.configured = false)
    (hi : i = .start ∨ (∃ value, i = .byte value) ∨ i = .final ∨ i = .check) :
    commandChecks i s = some .notConfigured := by
  rcases hi with rfl | ⟨value, rfl⟩ | rfl | rfl <;>
    simp [commandChecks, needsNoMessage, needsMessage, byteChecks, firstFailing, hc]

/-- Settles O40: the events of CONFIGURED, and the first check of the digest commands. -/
theorem configuredChangesOnlyOnItsEvents : Obligations.ConfiguredChangesOnlyOnItsEvents :=
  ⟨fun _ _ => step_configured, fun _ => rfl,
    fun _ _ hb he hc hi => exec_of_failing hb he (digestChecks_notConfigured hc hi)⟩

/-- The part of R35 about steps. -/
theorem step_isOpen {s t : State} (h : step s = .next t) :
    (Completes s .start → t.status.isOpen = true) ∧
    (Completes s .final → t.status.isOpen = false) ∧
    (∀ cause, Raises s cause → t.status.isOpen = false) ∧
    (¬ Completes s .start → ¬ Completes s .final → (¬ ∃ cause, Raises s cause) →
      t.status.isOpen = s.status.isOpen) := by
  cases step_event h with
  | accept i ha => cases i <;> simp [ha.not_completes, ha.not_raises]
  | complete i hc => cases i <;> simp [hc.iff, hc.not_raises]
  | raise _ hr => simp [hr.iff, hr.not_completes]
  | quiet hn => simp [hn.completes, hn.raises]

/-- An accepted command passed its checks (R101). -/
theorem Accepts.checks {s : State} {i : Instr} (h : Accepts s i) : commandChecks i s = none := h.2.2.1

/-- Settles O41: the events of OPEN, and what each command's checks ask of it. -/
theorem openChangesOnlyOnItsEvents : Obligations.OpenChangesOnlyOnItsEvents :=
  ⟨fun _ _ => step_isOpen, fun _ => rfl, fun s =>
    ⟨fun value h => ((byteChecks_eq_none_iff value s).mp h.checks).2.1,
      fun h => ((needsMessage_eq_none_iff s).mp h.checks).2,
      fun h => ((configureChecks_eq_none_iff s).mp h.checks).1,
      fun h => ((needsNoMessage_eq_none_iff s).mp h.checks).2,
      fun h => ((needsNoMessage_eq_none_iff s).mp h.checks).2⟩⟩

/-- The part of R36 about steps. -/
theorem step_resultValid {s t : State} (h : step s = .next t) :
    (Completes s .final ∨ Completes s .check ∨ (∃ nbits, Completes s (.reverse nbits)) →
      t.status.resultValid = true) ∧
    (Accepts s .configure ∨ Completes s .start ∨ (∃ cause, Raises s cause) → t.status.resultValid = false) ∧
    (¬ Completes s .final → ¬ Completes s .check → (¬ ∃ nbits, Completes s (.reverse nbits)) →
      ¬ Accepts s .configure → ¬ Completes s .start → (¬ ∃ cause, Raises s cause) →
      t.status.resultValid = s.status.resultValid) := by
  cases step_event h with
  | accept i ha => cases i <;> simp [ha.iff, ha.not_completes, ha.not_raises]
  | complete i hc => cases i <;> simp [hc.iff, hc.not_accepts, hc.not_raises]
  | raise _ hr => simp [hr.iff, hr.not_accepts, hr.not_completes]
  | quiet hn => simp [hn.accepts, hn.completes, hn.raises]

/-- Settles O42: the events of RESULT_VALID. -/
theorem resultValidChangesOnlyOnItsEvents : Obligations.ResultValidChangesOnlyOnItsEvents :=
  ⟨fun _ _ => step_resultValid, fun _ => rfl⟩

/-! ## RESULT, crc and the latch -/

/-- The part of R38 about steps. -/
theorem step_result {s t : State} (h : step s = .next t) :
    (Completes s .final → t.result = toValue (finalize s.act.numbers s.crc.toNat)) ∧
    (Completes s .check → t.result = toValue (calculate s.act.numbers (tableNumbers s.table) checkMessage)) ∧
    (∀ nbits, Completes s (.reverse nbits) → t.result = toValue (reversedBits s.latch.operand.toNat nbits)) ∧
    (¬ Completes s .final → ¬ Completes s .check → (¬ ∃ nbits, Completes s (.reverse nbits)) →
      t.result = s.result) := by
  cases step_event h with
  | accept i ha => cases i <;> simp [ha.not_completes]
  | complete i hc =>
    cases i with
    | reverse nbits => simp [hc.iff, nbitsField_latch hc.2]
    | _ => simp [hc.iff]
  | raise _ hr => simp [hr.not_completes]
  | quiet hn => simp [hn.completes]

/-- Settles O43: the events of RESULT, whose two words STATUS does not gate. -/
theorem resultIsWrittenOnlyByItsCommands : Obligations.ResultIsWrittenOnlyByItsCommands :=
  ⟨rfl, rfl, fun _ _ _ => ⟨rfl, rfl⟩, fun _ _ => step_result, fun _ => rfl, fun _ _ _ => rfl⟩

/-- The part of R46 about steps. -/
theorem step_crc {s t : State} (h : step s = .next t) :
    (Completes s .start → t.crc = s.act.init) ∧
    (∀ value, Completes s (.byte value) →
      t.crc = toValue (byteStep s.act.numbers (tableNumbers s.table) s.crc.toNat (value % 256))) ∧
    (¬ Completes s .start → (¬ ∃ value, Completes s (.byte value)) → t.crc = s.crc) := by
  cases step_event h with
  | accept i ha => cases i <;> simp [ha.not_completes]
  | complete i hc =>
    cases i with
    | byte value => simp [hc.iff, latchedByte_latch hc.2]
    | _ => simp [hc.iff]
  | raise _ hr => simp [hr.not_completes]
  | quiet hn => simp [hn.completes]

/-- No register shows crc (R46). -/
theorem readReg_crc (s : State) (v : Value) (r : Reg) : readReg r { s with crc := v } = readReg r s := by
  cases r <;> rfl

/-- Settles O44: the events of crc; its bound is the invariant's. -/
theorem crcIsWrittenOnlyByStartAndByte : Obligations.CrcIsWrittenOnlyByStartAndByte :=
  ⟨fun _ _ => step_crc, readReg_crc, fun _ h => h.openCrc⟩

/-- Settles O46: of the four kinds of step the acceptance alone writes the latch. -/
theorem latchIsWrittenOnlyByAcceptance : Obligations.LatchIsWrittenOnlyByAcceptance := by
  intro s t h
  cases step_event h with
  | accept i ha =>
    refine ⟨fun hn => absurd ⟨i, ha⟩ hn, fun j hj => ?_⟩
    obtain rfl := ha.iff.mp hj
    refine ⟨latchedWord_accepted j s, ?_⟩
    cases j <;> simp
  | complete i hc => cases i <;> simp [hc.not_accepts]
  | raise _ hr => simp [hr.not_accepts]
  | quiet hn => simp [hn.accepts]

/-! ## Readback -/

/-- The readback registers see CONFIGURED, the active configuration, TABLE and WMAX (R39 to R42). -/
theorem readback_congr {s t : State} (hp : t.params = s.params) (hc : t.status.configured = s.status.configured)
    (ha : t.act = s.act) (ht : t.table = s.table) (h : Half) (b : Nat) :
    readReg .actCfg t = readReg .actCfg s ∧ readReg (.actPoly h) t = readReg (.actPoly h) s ∧
    readReg (.actInit h) t = readReg (.actInit h) s ∧ readReg (.actXorout h) t = readReg (.actXorout h) s ∧
    readReg (.table b h) t = readReg (.table b h) s := by
  simp [readReg, gated, hp, hc, ha, ht]

/-- Settles O23: CONFIGURED rises by a completed CONFIGURE alone, and no other step writes what the readback shows. -/
theorem readbackIsGatedByConfigured : Obligations.ReadbackIsGatedByConfigured := by
  refine ⟨fun s h b hc => ?_, fun s => rfl, fun s t hst hs ht => ?_, fun s t hst => (step_configured hst).1,
    fun s t h b hst hs ht hn => ?_⟩
  · exact ⟨gated_unconfigured hc _, gated_unconfigured hc _, gated_unconfigured hc _, gated_unconfigured hc _,
      gated_unconfigured hc _⟩
  · obtain ⟨hacc, -, hother⟩ := step_configured hst
    by_contra hn
    by_cases ha : Accepts s .configure
    · exact Bool.false_ne_true ((hacc ha).symm.trans ht)
    · exact Bool.false_ne_true (hs.symm.trans ((hother ha hn).symm.trans ht))
  · obtain ⟨hact, htable⟩ := step_active hst hn
    exact readback_congr (step_params hst) (ht.trans hs.symm) hact htable h b

/-! ## PARAM -/

/-- Settles O17: a legal WMAX fits the register's word, and no step writes the parameters. -/
theorem paramIsTheConstantWmax : Obligations.ParamIsTheConstantWmax :=
  ⟨rfl, fun _ => toNat_readReg_param, fun _ _ => rfl, fun _ _ => step_params⟩

end Sys2Proof.Machine
end

section
/-! SUPPORT. The step of the ENGINE, of an acceptance and of a HOST access, each from the conditions on the state
before it; one of them applies in every state (R100). -/

namespace Sys2Proof.Machine

/-! ## What a spent turn leaves -/

section
variable {s s' : State} (hs : s' = s ∨ s' = spendTurn s)
include hs

theorem params_schedule : s'.params = s.params := by rcases hs with rfl | rfl <;> rfl

theorem host_schedule : s'.host = s.host := by rcases hs with rfl | rfl <;> rfl

theorem blockOnly_schedule : blockOnly s' = blockOnly s := by rcases hs with rfl | rfl <;> rfl

end

/-! ## The ENGINE -/

/-- With a command in the latch the ENGINE's step is exec of it (R103). -/
theorem engineStep_command {s : State} {i : Instr} (hd : decode (latchedWord s) = .command i) :
    engineStep s = exec i s := by
  rw [engineStep, hd]

/-- With this queue the ENGINE alone can move while BUSY = 1: no operation, or a CMD write, which is held (R66). -/
def HostWaits (p : Params) (ops : List HostOp) : Prop :=
  ops = [] ∨ ∃ op rest, ops = op :: rest ∧ isCommandIssue p op = true

/-- Where the HOST waits the ENGINE moves, and no turn is spent (R66, R100). -/
theorem step_hostWaits {s : State} (hb : s.status.busy = true) (hw : HostWaits s.params s.host) :
    step s = engineStep s := by
  rcases hw with hh | ⟨op, rest, hh, hc⟩
  · simp [step, advance, hh, hb]
  · simp [step, advance, hh, hb, hc]

/-- Where both agents can move and the turn is the ENGINE's (R100). -/
theorem step_engineTurn {s : State} {op : HostOp} {rest : List HostOp} (hb : s.status.busy = true)
    (hh : s.host = op :: rest) (hn : isCommandIssue s.params op = false) (ht : nextTurn s = .engine) :
    step s = engineStep (spendTurn s) := by
  simp [step, advance, hh, hb, hn, ht]

/-- Settles O7: the two schedules in which the ENGINE moves. -/
theorem engineStepRunsTheLatchedCommand : Obligations.EngineStepRunsTheLatchedCommand := by
  intro s i hb hd
  refine ⟨fun hw => ?_, fun ⟨op, rest, hh, hn⟩ ht => ?_⟩
  · exact (step_hostWaits hb hw).trans (engineStep_command hd)
  · exact (step_engineTurn hb hh hn ht).trans (engineStep_command (s := spendTurn s) hd)

/-- The ENGINE's step, over a spent turn where the HOST could have moved too (R100). -/
theorem step_engineMoves {s : State} (h : EngineMoves s) :
    ∃ s', (s' = s ∨ s' = spendTurn s) ∧ step s = engineStep s' := by
  obtain ⟨hb, hh | ⟨op, rest, hh, hm⟩⟩ := h
  · exact ⟨s, .inl rfl, step_hostWaits hb (.inl hh)⟩
  · by_cases hc : isCommandIssue s.params op = true
    · exact ⟨s, .inl rfl, step_hostWaits hb (.inr ⟨op, rest, hh, hc⟩)⟩
    · exact ⟨spendTurn s, .inr rfl, step_engineTurn hb hh (by simpa using hc) (hm.resolve_left hc)⟩

/-- The step that completes a command (R103). -/
theorem step_completes {s : State} {i : Instr} (h : Completes s i) :
    ∃ s', (s' = s ∨ s' = spendTurn s) ∧ step s = .next (completed i s') := by
  obtain ⟨s', hs, hstep⟩ := step_engineMoves h.1
  have hd : decode (latchedWord s') = .command i ∧ InProgress s' i := by
    rcases hs with rfl | rfl <;> exact ⟨h.2, h.inProgress⟩
  exact ⟨s', hs, by rw [hstep, engineStep_command hd.1, exec_inProgress hd.2, completed]⟩

/-- In a state of the invariant an ENGINE step is a completion (R103). -/
theorem BlockInv.completes {s : State} (h : BlockInv s) (hm : EngineMoves s) : ∃ i, Completes s i := by
  obtain ⟨i, hd, -⟩ := h.busyLatch hm.1
  exact ⟨i, hm, hd⟩

/-- Settles O8: a held write makes the ENGINE move, and the completion leaves the HOST's queue. -/
theorem heldWriteIsAcceptedAfterCompletion : Obligations.HeldWriteIsAcceptedAfterCompletion := by
  intro s w h hb hi
  obtain ⟨i, hc⟩ := h.completes (engineMoves_of_issues hb hi)
  obtain ⟨s', -, hstep⟩ := step_completes hc
  obtain ⟨-, hdone, -⟩ := step_busy hstep
  obtain ⟨hhost, hreply⟩ := step_held hstep hb hi
  have hi' : Issues (completed i s') w := by
    rw [Issues, hhost, step_params hstep]
    exact hi
  exact ⟨_, hstep, hdone i hc, hhost, hreply, hi', step_issue (hdone i hc) hi'⟩

/-! ## Reads and writes -/

/-- A register's value is the block's alone (R64). -/
theorem readReg_blockOnly (r : Reg) (s : State) : readReg r (blockOnly s) = readReg r s := by
  cases r <;> rfl

/-- Settles O9: a read stores nothing, and no register shows the model's own fields. -/
theorem readsReturnTheRegisterAndChangeNothing : Obligations.ReadsReturnTheRegisterAndChangeNothing := by
  refine ⟨fun s off => step_read, fun s t r heq => ?_⟩
  rw [← readReg_blockOnly r s, heq, readReg_blockOnly]

/-- Settles O10: CMD is at no other offset, and a register that is not RW keeps its value. -/
theorem writesStoreAtOnce : Obligations.WritesStoreAtOnce := by
  intro s off d h ha hoff hacc
  obtain ⟨t, hstep, hreply, hhost, hblock⟩ := step_write h ha (fun hr => hoff (regAt_eq_cmd hr)) hacc
  refine ⟨t, hstep, hreply, hhost, hblock, fun hr => ?_⟩
  have hrw : (regAt off).access ≠ .rw := by rcases hr with hr | hr <;> simp [hr]
  rwa [writeReg_of_access_ne_rw hrw] at hblock

/-- Settles O11: a bus error only finishes the access, or leaves the poll where it is (R62). -/
theorem otherAccessesGetABusError : Obligations.OtherAccessesGetABusError := by
  refine ⟨fun s off size op h hn hop hh hturn => ?_, fun s off m v h ha hh hturn => ?_⟩
  · have hsel := select_busError (p := s.params) h hn
    have hquiet : isCommandIssue s.params op = false := by
      rcases hop with rfl | ⟨d, rfl⟩ <;> simp [isCommandIssue, hsel]
    obtain ⟨s', hs, hstep⟩ := step_hostAccesses ⟨hh, hquiet, hturn⟩
    have herr : hostStep op s' = .next (finishAccess .busError s') := by
      rw [← params_schedule hs] at hsel hop
      rcases hop with rfl | ⟨d, rfl⟩
      · rw [hostStep, hostRead, hsel]
      · rw [hostStep, hostWrite, hsel]
    exact ⟨_, hstep.trans herr, rfl, congrArg List.tail (host_schedule hs), (blockOnly_schedule hs :)⟩
  · have hsel := select_busError (p := s.params) (size := .word) h (fun hn => ha hn.2)
    obtain ⟨s', hs, hstep⟩ := step_hostAccesses ⟨hh, rfl, hturn⟩
    have herr : hostStep (.poll (s.params.base + off) m v) s' = .next { s' with reply := .busError } := by
      rw [← params_schedule hs] at hsel ⊢
      rw [hostStep, hostPoll, hsel]
    exact ⟨_, hstep.trans herr, rfl, (host_schedule hs :), (blockOnly_schedule hs :)⟩

/-! ## Which stops there are -/

/-- In every state the block is idle, the ENGINE moves, or the HOST issues a word or makes another access (R100). -/
theorem step_kinds (s : State) :
    (s.host = [] ∧ s.status.busy = false) ∨ EngineMoves s ∨ (s.status.busy = false ∧ ∃ w, Issues s w) ∨
      ∃ op, HostAccesses s op := by
  cases hh : s.host with
  | nil =>
    cases hb : s.status.busy
    · exact .inl ⟨rfl, rfl⟩
    · exact .inr (.inl ⟨hb, .inl hh⟩)
  | cons op rest =>
    have hop : s.host.head? = some op := by rw [hh, List.head?_cons]
    cases hc : isCommandIssue s.params op <;> cases hb : s.status.busy
    · exact .inr (.inr (.inr ⟨op, hop, hc, .inl hb⟩))
    · cases ht : nextTurn s
      · exact .inr (.inr (.inr ⟨op, hop, hc, .inr ht⟩))
      · exact .inr (.inl ⟨hb, .inr ⟨op, rest, hh, .inr ht⟩⟩)
    · obtain ⟨w, rfl⟩ := eq_issue_of_isCommandIssue hc
      exact .inr (.inr (.inl ⟨rfl, w, hop⟩))
    · exact .inr (.inl ⟨hb, .inr ⟨op, rest, hh, .inl hc⟩⟩)

/-- An access selects nothing of the block exactly when it is outside the window (R61). -/
theorem select_eq_elsewhere_iff {p : Params} {addr : Nat} {size : AccessSize} :
    select p addr size = .elsewhere ↔ ¬(p.base ≤ addr ∧ addr < p.base + 4096) := by
  unfold select
  split
  · split <;> simp [*]
  · simp [*]

/-- A HOST operation goes on, or it is outside the window and refused (R61). -/
theorem hostStep_next_or_refused (op : HostOp) (s : State) :
    (∃ t, hostStep op s = .next t) ∨
      (hostStep op s = .refused (.outsideWindow (accessAddress op)) ∧
        ¬(s.params.base ≤ accessAddress op ∧ accessAddress op < s.params.base + 4096)) := by
  cases op with
  | read addr size =>
    simp only [hostStep, hostRead]
    split
    · exact .inr ⟨rfl, select_eq_elsewhere_iff.mp ‹_›⟩
    · exact .inl ⟨_, rfl⟩
    · exact .inl ⟨_, rfl⟩
  | write addr size d =>
    simp only [hostStep, hostWrite]
    split
    · exact .inr ⟨rfl, select_eq_elsewhere_iff.mp ‹_›⟩
    · exact .inl ⟨_, rfl⟩
    · exact .inl (acceptWord_next d _)
    · exact .inl ⟨_, rfl⟩
  | poll addr m v =>
    simp only [hostStep, hostPoll]
    split
    · exact .inr ⟨rfl, select_eq_elsewhere_iff.mp ‹_›⟩
    · exact .inl ⟨_, rfl⟩
    · split <;> exact .inl ⟨_, rfl⟩

/-- What any step is: a next state, the HOST's first operation refused outside the window (R61), or, in no state of the
invariant, the ENGINE's fault. -/
theorem step_outcomes (s : State) :
    StepsOn s ∨
      (∃ op ∈ s.host, step s = .refused (.outsideWindow (accessAddress op)) ∧
        ¬(s.params.base ≤ accessAddress op ∧ accessAddress op < s.params.base + 4096)) ∨
      (step s = .fault .noLatchedCommand ∧ ¬ BlockInv s) := by
  rcases step_kinds s with ⟨hh, hb⟩ | hm | ⟨hb, w, hi⟩ | ⟨op, hacc⟩
  · exact .inl ⟨s, step_idle hh hb⟩
  · cases hd : decode (latchedWord s) with
    | command i =>
      obtain ⟨s', -, hstep⟩ := step_completes ⟨hm, hd⟩
      exact .inl ⟨_, hstep⟩
    | illegal why =>
      obtain ⟨s', hs, hstep⟩ := step_engineMoves hm
      have hd' : decode (latchedWord s') = .illegal why := by
        rcases hs with rfl | rfl <;> exact hd
      refine .inr (.inr ⟨by rw [hstep, engineStep, hd'], fun h => ?_⟩)
      obtain ⟨i, hc⟩ := h.completes hm
      exact nomatch hd.symm.trans hc.2
  · obtain ⟨t, ht⟩ := acceptWord_next w (finishAccess .written s)
    exact .inl ⟨t, (step_issue hb hi).trans ht⟩
  · obtain ⟨s', hs, hstep⟩ := step_hostAccesses hacc
    rw [StepsOn, hstep, ← params_schedule hs]
    exact (hostStep_next_or_refused op s').imp_right fun hr => .inl ⟨op, List.mem_of_mem_head? hacc.1, hr⟩

/-- Settles O14: the two stops that `step_outcomes` leaves are outside the window and outside the invariant. -/
theorem onlyAccessesOutsideTheWindowStop : Obligations.OnlyAccessesOutsideTheWindowStop := by
  refine ⟨fun s h hwin => ?_, fun s f h hf => ?_, fun s r hr => ?_⟩
  · rcases step_outcomes s with hnext | ⟨op, hop, -, hout⟩ | ⟨-, hn⟩
    · exact hnext
    · exact absurd (hwin op hop) hout
    · exact absurd h hn
  · rcases step_outcomes s with ⟨t, ht⟩ | ⟨op, -, hr, -⟩ | ⟨-, hn⟩
    · exact nomatch ht.symm.trans hf
    · exact nomatch hr.symm.trans hf
    · exact hn h
  · rcases step_outcomes s with ⟨t, ht⟩ | ⟨op, -, hr', hout⟩ | ⟨hf, -⟩
    · exact nomatch ht.symm.trans hr
    · exact ⟨accessAddress op, Host.Outcome.refused.inj (hr.symm.trans hr'), hout⟩
    · exact nomatch hf.symm.trans hr

end Sys2Proof.Machine
end

section
/-! SUPPORT. The run of one command: two steps where the ENGINE alone can move, and with a closing crc.wait as many as
the schedule takes (R90, R101, R103, R107). -/

namespace Sys2Proof

/-- A command that fits its fields is what its encoding decodes to (R85, R88). -/
theorem decode_encode {i : Instr} (h : i.wellFormed = true) : decode (encode i) = .command i := by
  rw [decode, opField_encode, argField_encode]
  cases i with
  | byte value =>
    have hv : value < 2 ^ 24 := by simpa [Instr.wellFormed] using h
    exact congrArg (fun n => Decoded.command (.byte n)) (BitVec.toNat_ofNat value 24 |>.trans (Nat.mod_eq_of_lt hv))
  | reverse nbits =>
    have hv : nbits < 2 ^ 7 := by simpa [Instr.wellFormed] using h
    have hz : reverseZeroField (BitVec.ofNat 24 nbits) = 0 := by
      refine BitVec.eq_of_toNat_eq ?_
      rw [reverseZeroField, BitVec.extractLsb'_toNat, BitVec.toNat_ofNat, Nat.shiftRight_eq_div_pow]
      simp
      omega
    have hn : (nbitsField (BitVec.ofNat 24 nbits)).toNat = nbits := by
      rw [nbitsField, BitVec.extractLsb'_toNat, BitVec.toNat_ofNat, Nat.shiftRight_zero]
      omega
    show decodeR (BitVec.ofNat 24 nbits) = _
    rw [decodeR, if_pos hz, hn]
  | _ => rfl

namespace Machine

/-! ## The acceptance and the completion of a command -/

@[simp] theorem accepted_params (i : Instr) (s : State) : (accepted i s).params = s.params := by cases i <;> rfl
@[simp] theorem accepted_host (i : Instr) (s : State) : (accepted i s).host = s.host.tail := by cases i <;> rfl
@[simp] theorem accepted_busy (i : Instr) (s : State) : (accepted i s).status.busy = true := by cases i <;> rfl
@[simp] theorem completed_params (i : Instr) (s : State) : (completed i s).params = s.params := by cases i <;> rfl
@[simp] theorem completed_host (i : Instr) (s : State) : (completed i s).host = s.host := by cases i <;> rfl
@[simp] theorem completed_busy (i : Instr) (s : State) : (completed i s).status.busy = false := by cases i <;> rfl

/-- A completion is about the block alone. -/
theorem blockOnly_completed (i : Instr) (s : State) : blockOnly (completed i s) = completed i (blockOnly s) := by
  cases i <;> rfl

/-- The step that accepts a command (R101). -/
theorem step_accepts {s : State} {i : Instr} (h : Accepts s i) : step s = .next (accepted i s) := by
  obtain ⟨hb, he, hc, w, hi, hd⟩ := h
  rw [step_issue hb hi, acceptWord_command (s := finishAccess .written s) hb hd,
    exec_idle (s := finishAccess .written s) i hb]
  have hn : ¬((finishAccess .written s).status.error = true ∧ i ≠ .clearErr) := by
    rcases he with he | rfl <;> simp [*]
  rw [acceptCommand, if_neg hn, commandChecks_finishAccess, hc, accepted]

/-- The latch after an acceptance decodes to the accepted command (R101). -/
theorem decode_accepted {s : State} {i : Instr} (h : Accepts s i) :
    decode (latchedWord (accepted i s)) = .command i := by
  obtain ⟨-, -, -, w, -, hd⟩ := h
  rw [latchedWord_accepted, (encode_of_decode hd).2, hd]

/-- Where the HOST waits behind a CMD write, its command completes next (R66, R103). -/
theorem completes_accepted {s : State} {i : Instr} (h : Accepts s i) (hw : HostWaits s.params s.host.tail) :
    Completes (accepted i s) i := by
  refine ⟨⟨accepted_busy i s, ?_⟩, decode_accepted h⟩
  rw [accepted_host, accepted_params]
  exact hw.imp_right fun ⟨op, rest, hh, hc⟩ => ⟨op, rest, hh, .inl hc⟩

/-- Where the HOST waits behind a CMD write, the command runs in two steps. -/
theorem run_command {s : State} {i : Instr} (h : Accepts s i) (hw : HostWaits s.params s.host.tail) :
    Host.Core.run Sys2Proof.core 2 s = .next (completed i (accepted i s)) := by
  have hcomplete : step (accepted i s) = .next (completed i (accepted i s)) := by
    rw [step_hostWaits (accepted_busy i s) (by simpa using hw), engineStep_command (decode_accepted h),
      exec_inProgress (completes_accepted h hw).inProgress, completed]
  rw [core_run_succ (step_accepts h), core_run_succ hcomplete]
  rfl

/-! ## crc.wait -/

/-- With BUSY = 0 the HOST alone can move (R100). -/
theorem step_hostIdle {s : State} {op : HostOp} {rest : List HostOp} (hb : s.status.busy = false)
    (hh : s.host = op :: rest) : step s = hostStep op s := by
  simp [step, advance, hh, hb]

/-- Where both agents can move and the turn is the HOST's (R100). -/
theorem step_hostTurn {s : State} {op : HostOp} {rest : List HostOp} (hb : s.status.busy = true)
    (hh : s.host = op :: rest) (hn : isCommandIssue s.params op = false) (ht : nextTurn s = .host) :
    step s = hostStep op (spendTurn s) := by
  simp [step, advance, hh, hb, hn, ht]

/-- What crc.wait looks at (R32, R90). -/
theorem readReg_status_and_one (s : State) :
    readReg .status s &&& 0x00000001 = 0x00000000 ↔ s.status.busy = false := by
  have hbit : (readReg .status s).getLsbD 0 = s.status.busy := getLsbD_statusWord s.status 0
  have hword : readReg .status s &&& 1#32 = (BitVec.ofBool s.status.busy).setWidth 32 := by
    rw [BitVec.and_one_eq_setWidth_ofBool_getLsbD, hbit]
  rw [show (0x00000001 : Word) = 1#32 from rfl, hword]
  cases s.status.busy <;> decide

/-- A read of crc.wait while BUSY = 1: it stays. -/
theorem hostStep_crcWait_busy {s : State} (hb : s.status.busy = true) :
    hostStep (poll s.params 0x034 0x00000001 0x00000000) s = .next { s with reply := .data (readReg .status s) } := by
  rw [poll, hostStep, hostPoll, select_word (by decide) (by decide)]
  exact if_neg fun hw => Bool.false_ne_true (((readReg_status_and_one s).mp hw).symm.trans hb)

/-- A read of crc.wait while BUSY = 0: it is finished. -/
theorem hostStep_crcWait_idle {s : State} (hb : s.status.busy = false) :
    hostStep (poll s.params 0x034 0x00000001 0x00000000) s = .next (finishAccess (.data (readReg .status s)) s) := by
  rw [poll, hostStep, hostPoll, select_word (by decide) (by decide)]
  exact if_pos ((readReg_status_and_one s).mpr hb)

/-- With BUSY = 0 crc.wait ends with its next read (R90). -/
theorem step_crcWait_idle {s : State} {rest : List HostOp} (hb : s.status.busy = false)
    (hh : s.host = crcWait s.params ++ rest) :
    ∃ t, step s = .next t ∧ t.host = rest ∧ blockOnly t = blockOnly s :=
  ⟨_, (step_hostIdle hb hh).trans (hostStep_crcWait_idle hb), by simp [hh, crcWait], rfl⟩

/-- While BUSY = 1 crc.wait reads until the ENGINE's turn comes, which the schedule gives after finitely many reads
(R107); the first read after the completion finishes it. -/
theorem run_crcWait {s : State} {i : Instr} {rest : List HostOp} (hb : s.status.busy = true)
    (hd : decode (latchedWord s) = .command i) (hh : s.host = crcWait s.params ++ rest) :
    ∃ (k : Nat) (t : State), Host.Core.run Sys2Proof.core k s = .next t ∧ t.host = rest ∧
      blockOnly t = blockOnly (completed i s) := by
  induction hn : hostTurnsLeft s using Nat.strong_induction_on generalizing s with
  | _ n ih =>
    cases ht : nextTurn s with
    | host =>
      have hstep := (step_hostTurn hb hh rfl ht).trans (hostStep_crcWait_busy (s := spendTurn s) hb)
      obtain ⟨k, t, hrun, hhost, hblock⟩ := ih _ (hn ▸ hostTurnsLeft_spendTurn_lt ht)
        (s := { spendTurn s with reply := .data (readReg .status (spendTurn s)) }) hb hd hh rfl
      refine ⟨k + 1, t, (core_run_succ hstep).trans hrun, hhost, hblock.trans ?_⟩
      rw [blockOnly_completed, blockOnly_completed]
      rfl
    | engine =>
      have hp : InProgress (spendTurn s) i := ⟨hb, (encode_of_decode hd).2.symm⟩
      have hstep : step s = .next (completed i (spendTurn s)) := by
        rw [step_engineTurn hb hh rfl ht, engineStep_command (s := spendTurn s) hd, exec_inProgress hp, completed]
      obtain ⟨t, hlast, hhost, hblock⟩ := step_crcWait_idle (s := completed i (spendTurn s)) (rest := rest)
        (completed_busy i _) (by simpa using hh)
      refine ⟨2, t, (core_run_succ hstep).trans (core_run_succ hlast), hhost, hblock.trans ?_⟩
      rw [blockOnly_completed, blockOnly_completed]
      rfl

end Machine

end Sys2Proof
end

section
/-! The run of a message: START opens it, each BYTE steps the accumulator, FINAL leaves the digest (R160). -/

namespace Sys2Proof.Machine

/-! ## The digest under a table of the right entries -/

/-- A byte step looks at the entries of byte indices alone (R150, R151). -/
theorem byteStep_congr {v : Variant} {table table' : Nat → Nat} {crc b : Nat} (hw : 8 ≤ v.width)
    (ht : ∀ b, b < 256 → table b = table' b) (hc : crc < 2 ^ v.width) (hb : b < 256) :
    byteStep v table crc b = byteStep v table' crc b := by
  unfold byteStep
  split
  · rw [stepR, stepR, ht _ (stepR_index_lt crc b)]
  · rw [stepN, stepN, ht _ (stepN_index_lt hw hc hb)]

/-- The accumulation of a message of bytes looks at the same entries alone (R154). -/
theorem foldl_byteStep_congr {v : Variant} {table table' : Nat → Nat} (hw : 8 ≤ v.width)
    (ht : ∀ b, b < 256 → table b = table' b) (hlt : ∀ b, b < 256 → table b < 2 ^ v.width) {m : List Nat}
    (hm : ∀ b ∈ m, b < 256) {crc : Nat} (hc : crc < 2 ^ v.width) :
    m.foldl (byteStep v table) crc = m.foldl (byteStep v table') crc := by
  induction m generalizing crc with
  | nil => rfl
  | cons b m ih =>
    have hb := hm b List.mem_cons_self
    rw [List.foldl_cons, List.foldl_cons, ← byteStep_congr hw ht hc hb]
    exact ih (fun x hx => hm x (List.mem_cons_of_mem _ hx)) (byteStep_lt hw hlt hc hb)

/-- The stored table gives the digest of the generator's table (R45, R154). -/
theorem BlockInv.calculate_eq {s : State} (h : BlockInv s) (hc : s.status.configured = true) {m : List Nat}
    (hm : ∀ b ∈ m, b < 256) :
    calculate s.act.numbers (tableNumbers s.table) m =
      calculate s.act.numbers (genTable s.act.width.toNat s.act.poly.toNat s.act.reflectIn) m := by
  obtain ⟨h8, -, -, hi, -⟩ := h.active hc
  exact congrArg (finalize s.act.numbers)
    (foldl_byteStep_congr h8 (h.table hc) (fun _ => h.tableNumbers_lt hc) hm hi)

/-! ## The operations of a message -/

/-- The BYTE commands of m (R90). -/
def byteOps (p : Params) (m : List Nat) : List HostOp := m.map fun b => issue p (encode (.byte b))

/-- What the assembler makes of a message (R90). -/
theorem crcMessage_eq (p : Params) {m : List Nat} (hm : ∀ b ∈ m, b < 2 ^ 24) :
    crcMessage p m =
      some (issue p (encode .start) :: (byteOps p m ++ [issue p (encode .final)])) := by
  have hbytes : crcBytes p m = some (byteOps p m) := by
    rw [crcBytes, assembleAll_wellFormed p (by simpa [Instr.wellFormed] using hm), List.map_map]
    rfl
  simp [crcMessage, hbytes, assemble, Instr.wellFormed]

/-- Behind the issue of a word the HOST waits (R66). -/
theorem hostWaits_issue (p : Params) (w : Word) (ops : List HostOp) : HostWaits p (issue p w :: ops) :=
  .inr ⟨_, _, rfl, isCommandIssue_issue p w⟩

/-- BYTEs put before a queue that waits wait too. -/
theorem hostWaits_byteOps {p : Params} {ops : List HostOp} (m : List Nat) (h : HostWaits p ops) :
    HostWaits p (byteOps p m ++ ops) := by
  cases m with
  | nil => exact h
  | cons b m => exact hostWaits_issue p _ _

/-! ## The run -/

/-- In t a message is open in the configuration of s, no command is in progress, the accumulator holds crc and the HOST
still has ops to perform. -/
structure InMessage (s : State) (crc : Nat) (ops : List HostOp) (t : State) : Prop where
  inv : BlockInv t
  busy : t.status.busy = false
  error : t.status.error = false
  isOpen : t.status.isOpen = true
  crc : t.crc.toNat = crc
  host : t.host = ops
  params : t.params = s.params
  act : t.act = s.act
  table : t.table = s.table

/-- In an idle block a command whose checks pass is accepted when the HOST issues its encoding (R101). -/
theorem accepts_of_checks {s : State} {i : Instr} {ops : List HostOp} (hwf : i.wellFormed = true)
    (hb : s.status.busy = false) (he : s.status.error = false) (hc : commandChecks i s = none)
    (hh : s.host = issue s.params (encode i) :: ops) : Accepts s i :=
  ⟨hb, .inl he, hc, encode i, by rw [Issues, hh, List.head?_cons], decode_encode hwf⟩

/-- A command from its acceptance to its completion keeps the invariant (R48). -/
theorem blockInv_command {s : State} {i : Instr} (h : BlockInv s) (ha : Accepts s i)
    (hw : HostWaits s.params s.host.tail) : BlockInv (completed i (accepted i s)) :=
  blockInv_completed (completes_accepted ha hw) (blockInv_accepted ha h)

/-- START opens a message with act_init in the accumulator (R155). -/
theorem run_start {s : State} {ops : List HostOp} (h : BlockInv s) (hb : s.status.busy = false)
    (he : s.status.error = false) (hc : s.status.configured = true) (ho : s.status.isOpen = false)
    (hw : HostWaits s.params ops) :
    ∃ t, Host.Core.run Sys2Proof.core 2 { s with host := issue s.params (encode .start) :: ops } = .next t ∧
      InMessage s s.act.init.toNat ops t := by
  have ha : Accepts { s with host := issue s.params (encode .start) :: ops } .start :=
    accepts_of_checks rfl hb he ((needsNoMessage_eq_none_iff s).mpr ⟨hc, ho⟩) rfl
  have hinv : BlockInv { s with host := issue s.params (encode .start) :: ops } :=
    blockInv_of_blockOnly_eq (s := s) rfl h
  exact ⟨_, run_command ha hw,
    { inv := blockInv_command hinv ha hw
      busy := by simp, error := by simpa using he, isOpen := by simp, crc := by simp, host := by simp
      params := by simp, act := by simp, table := by simp }⟩

/-- A BYTE makes one byte step (R156). -/
theorem run_byte {s t : State} {c b : Nat} {ops : List HostOp} (hb : b < 256)
    (h : InMessage s c (issue s.params (encode (.byte b)) :: ops) t) (hw : HostWaits s.params ops) :
    ∃ u, Host.Core.run Sys2Proof.core 2 t = .next u ∧
      InMessage s (byteStep s.act.numbers (tableNumbers s.table) c b) ops u := by
  have hc := h.inv.openConfigured h.isOpen
  have hh : t.host = issue t.params (encode (.byte b)) :: ops := by rw [h.host, h.params]
  have ha : Accepts t (.byte b) :=
    accepts_of_checks (by simp [Instr.wellFormed]; omega) h.busy h.error
      ((byteChecks_eq_none_iff b t).mpr ⟨hc, h.isOpen, by omega⟩) hh
  have hw' : HostWaits t.params t.host.tail := by rwa [hh, h.params]
  have hbyte : latchedByte (accepted (.byte b) t) = b := by
    rw [latchedByte_latch (decode_accepted ha), Nat.mod_eq_of_lt hb]
  obtain ⟨h8, hwidth, -, -, -⟩ := h.inv.active hc
  have hlt : byteStep t.act.numbers (tableNumbers t.table) t.crc.toNat b < 2 ^ t.act.width.toNat :=
    byteStep_lt (v := t.act.numbers) h8 (fun _ => h.inv.tableNumbers_lt hc) (h.inv.openCrc h.isOpen) hb
  refine ⟨_, run_command ha hw',
    { inv := blockInv_command h.inv ha hw'
      busy := by simp, error := by simp [h.error], isOpen := by simp [h.isOpen], crc := ?_, host := by simp [hh]
      params := by simp [h.params], act := by simp [h.act], table := by simp [h.table] }⟩
  rw [← h.crc, ← h.act, ← h.table, completed_byte, endBusy_crc, byteCompletion_crc, hbyte]
  exact toNat_toValue hlt (hwidth.trans h.inv.wmax_le)

/-- The BYTEs of m accumulate m, in two steps each (R160). -/
theorem run_bytes {s t : State} {c : Nat} {m : List Nat} {ops : List HostOp} (hm : ∀ b ∈ m, b < 256)
    (h : InMessage s c (byteOps s.params m ++ ops) t) (hw : HostWaits s.params ops) :
    ∃ u, Host.Core.run Sys2Proof.core (2 * m.length) t = .next u ∧
      InMessage s (m.foldl (byteStep s.act.numbers (tableNumbers s.table)) c) ops u := by
  induction m generalizing c t with
  | nil => exact ⟨t, rfl, h⟩
  | cons b m ih =>
    obtain ⟨u, hrun, hu⟩ := run_byte (hm b List.mem_cons_self) h (hostWaits_byteOps m hw)
    obtain ⟨x, hrest, hx⟩ := ih (fun y hy => hm y (List.mem_cons_of_mem _ hy)) hu
    have hlen : 2 * (b :: m).length = 2 + 2 * m.length := by
      rw [List.length_cons]
      omega
    exact ⟨x, by rw [hlen, core_run_add hrun, hrest], hx⟩

/-- FINAL is accepted while a message is open (R157). -/
theorem InMessage.accepts_final {s t : State} {c : Nat} {ops : List HostOp}
    (h : InMessage s c (issue s.params (encode .final) :: ops) t) : Accepts t .final :=
  accepts_of_checks rfl h.busy h.error
    ((needsMessage_eq_none_iff t).mpr ⟨h.inv.openConfigured h.isOpen, h.isOpen⟩) (by rw [h.host, h.params])

/-- In x the message's digest is n, in the configuration of s (R157). -/
structure LeavesDigest (s : State) (n : Nat) (x : State) : Prop where
  busy : x.status.busy = false
  error : x.status.error = false
  isOpen : x.status.isOpen = false
  resultValid : x.status.resultValid = true
  result : x.result.toNat = n
  act : x.act = s.act
  table : x.table = s.table

/-- Blocks that agree have the same STATUS, RESULT, active configuration and TABLE (R20). -/
theorem fields_of_blockOnly_eq {s t : State} (h : blockOnly s = blockOnly t) :
    s.status = t.status ∧ s.result = t.result ∧ s.act = t.act ∧ s.table = t.table :=
  ⟨(congrArg State.status h :), (congrArg State.result h :), (congrArg State.act h :), (congrArg State.table h :)⟩

/-- A block that FINAL has left holds the digest, whatever the HOST and the schedule are (R157, R163). -/
theorem InMessage.leavesDigest {s t x : State} {c : Nat} {ops : List HostOp} (h : InMessage s c ops t)
    (hx : blockOnly x = blockOnly (completed .final (accepted .final t))) :
    LeavesDigest s (finalize s.act.numbers c) x := by
  obtain ⟨-, hw, -, -, hxor⟩ := h.inv.active (h.inv.openConfigured h.isOpen)
  obtain ⟨hstatus, hresult, hact, htable⟩ := fields_of_blockOnly_eq hx
  have hlt : finalize t.act.numbers t.crc.toNat < 2 ^ t.act.width.toNat :=
    finalize_lt (v := t.act.numbers) hxor (h.inv.openCrc h.isOpen)
  have hdigest : x.result = toValue (finalize t.act.numbers t.crc.toNat) := by simpa using hresult
  exact
    { busy := by simp [hstatus]
      error := by simp [hstatus, h.error]
      isOpen := by simp [hstatus]
      resultValid := by simp [hstatus]
      result := by rw [hdigest, toNat_toValue hlt (hw.trans h.inv.wmax_le), h.crc, h.act]
      act := by simp [hact, h.act]
      table := by simp [htable, h.table] }

/-- Without a crc.wait FINAL takes its two steps. -/
theorem run_final {s t : State} {c : Nat} (h : InMessage s c [issue s.params (encode .final)] t) :
    ∃ x, Host.Core.run Sys2Proof.core 2 t = .next x ∧ x.host = [] ∧ LeavesDigest s (finalize s.act.numbers c) x :=
  ⟨_, run_command h.accepts_final (.inl (by rw [h.host, List.tail_cons])), by simp [h.host], h.leavesDigest rfl⟩

/-- With a crc.wait behind it FINAL takes what the schedule gives the HOST (R107). -/
theorem run_final_crcWait {s t : State} {c : Nat}
    (h : InMessage s c (issue s.params (encode .final) :: crcWait s.params) t) :
    ∃ (k : Nat) (x : State), Host.Core.run Sys2Proof.core k t = .next x ∧ x.host = [] ∧
      LeavesDigest s (finalize s.act.numbers c) x := by
  have hh : (accepted .final t).host = crcWait (accepted .final t).params ++ [] := by
    rw [accepted_host, accepted_params, h.host, h.params, List.tail_cons, List.append_nil]
  obtain ⟨k, x, hrun, hhost, hblock⟩ := run_crcWait (accepted_busy .final t) (decode_accepted h.accepts_final) hh
  exact ⟨k + 1, x, (core_run_succ (step_accepts h.accepts_final)).trans hrun, hhost, h.leavesDigest hblock⟩

section
variable {s : State} {m : List Nat} (h : BlockInv s) (hb : s.status.busy = false) (he : s.status.error = false)
  (hc : s.status.configured = true) (ho : s.status.isOpen = false) (hm : ∀ b ∈ m, b < 256)
include h hb he hc ho hm

/-- START and the BYTEs of m, up to FINAL (R160). -/
theorem run_untilFinal (ops : List HostOp) :
    ∃ t, Host.Core.run Sys2Proof.core (2 + 2 * m.length) { s with
        host := issue s.params (encode .start) :: (byteOps s.params m ++ issue s.params (encode .final) :: ops) } =
          .next t ∧
      InMessage s (m.foldl (byteStep s.act.numbers (tableNumbers s.table)) s.act.init.toNat)
        (issue s.params (encode .final) :: ops) t := by
  have hw := hostWaits_issue s.params (encode .final) ops
  obtain ⟨t, hstart, ht⟩ := run_start h hb he hc ho (hostWaits_byteOps m hw)
  obtain ⟨u, hbytes, hu⟩ := run_bytes hm ht hw
  exact ⟨u, (core_run_add hstart).trans hbytes, hu⟩

/-- START, the BYTEs of m and FINAL take two steps each (R160). -/
theorem run_message :
    ∃ t, Host.Core.run Sys2Proof.core (2 * (m.length + 2)) { s with
        host := issue s.params (encode .start) :: (byteOps s.params m ++ [issue s.params (encode .final)]) } =
          .next t ∧
      t.host = [] ∧ LeavesDigest s (calculate s.act.numbers (tableNumbers s.table) m) t := by
  obtain ⟨t, hrun, ht⟩ := run_untilFinal h hb he hc ho hm []
  obtain ⟨x, hfinal, hx⟩ := run_final ht
  rw [show 2 * (m.length + 2) = 2 + 2 * m.length + 2 by omega]
  exact ⟨x, (core_run_add hrun).trans hfinal, hx⟩

/-- With the closing crc.wait they end the same, after a finite number of steps (R90, R107, R160). -/
theorem run_message_crcWait :
    ∃ (k : Nat) (t : State), Host.Core.run Sys2Proof.core k { s with
        host := issue s.params (encode .start) ::
          (byteOps s.params m ++ issue s.params (encode .final) :: crcWait s.params) } = .next t ∧
      t.host = [] ∧ LeavesDigest s (calculate s.act.numbers (tableNumbers s.table) m) t := by
  obtain ⟨t, hrun, ht⟩ := run_untilFinal h hb he hc ho hm (crcWait s.params)
  obtain ⟨k, x, hfinal, hx⟩ := run_final_crcWait ht
  exact ⟨2 + 2 * m.length + k, x, (core_run_add hrun).trans hfinal, hx⟩

end

/-- Settles O58: the two runs end the same, and the table's entries are the generator's. -/
theorem messageRunLeavesItsDigest : Obligations.MessageRunLeavesItsDigest := by
  intro s m h hb he hc ho hm
  have hmsg := crcMessage_eq s.params (m := m) fun b hb' => (hm b hb').trans (by decide)
  have hcalc : crcCalc s.params m = some (issue s.params (encode .start) ::
      (byteOps s.params m ++ issue s.params (encode .final) :: crcWait s.params)) := by
    simp [crcCalc, hmsg]
  obtain ⟨t, hrun, ht⟩ := run_message h hb he hc ho hm
  obtain ⟨k, u, hwait, hu⟩ := run_message_crcWait h hb he hc ho hm
  refine ⟨_, _, k, t, u, hmsg, hcalc, hrun, hwait, fun x hx => ?_⟩
  obtain ⟨hhost, hd⟩ : x.host = [] ∧ LeavesDigest s (calculate s.act.numbers (tableNumbers s.table) m) x := by
    rcases hx with rfl | rfl
    · exact ht
    · exact hu
  exact ⟨⟨hhost, hd.busy⟩, hd.result.trans (h.calculate_eq hc hm), hd.resultValid, hd.isOpen, hd.error, hd.act,
    hd.table⟩

end Sys2Proof.Machine
end

section
/-! The encoding, field by field (R81 to R88). -/

namespace Sys2Proof

/-! ## The round trip -/

/-- Settles O1: the two fields of an encoding are the opcode and the argument, which holds a well-formed operand. -/
theorem encodeThenDecodeGivesTheCommand : Obligations.EncodeThenDecodeGivesTheCommand := fun _ => decode_encode

/-- Settles O2: the two fields of a word that decodes to a command are the command's own. -/
theorem decodeThenEncodeGivesTheWord : Obligations.DecodeThenEncodeGivesTheWord := fun _ _ => encode_of_decode

/-- A command has no word but its encoding (R85, R88). -/
theorem decode_eq_command_iff {w : Word} {i : Instr} :
    decode w = .command i ↔ i.wellFormed = true ∧ w = encode i := by
  constructor
  · exact fun h => (encode_of_decode h).imp_right Eq.symm
  · rintro ⟨hwf, rfl⟩
    exact decode_encode hwf

/-- A command that fits its fields, by its word c written out (R85). -/
theorem decode_eq_command_iff_eq {i : Instr} {c : Word} (hwf : i.wellFormed = true) (hc : encode i = c) (w : Word) :
    decode w = .command i ↔ w = c := by
  rw [decode_eq_command_iff, hc, and_iff_right hwf]

/-- Settles O5: every sample word is the encoding of its command. -/
theorem sampleWordsDecode : Obligations.SampleWordsDecode := by
  refine ⟨?_, ?_, ?_, ?_, ?_, ?_, ?_, ?_⟩ <;> exact decode_eq_command_iff.mpr ⟨rfl, rfl⟩

/-! ## The rows of the opcode map as masks -/

/-- A statement about every command, command by command. -/
theorem Instr.forall_iff {p : Instr → Prop} :
    (∀ i, p i) ↔ p .nop ∧ p .configure ∧ p .start ∧ (∀ v, p (.byte v)) ∧ p .final ∧ p .check ∧
      (∀ n, p (.reverse n)) ∧ p .clearErr := by
  refine ⟨fun h => ⟨h _, h _, h _, fun _ => h _, h _, h _, fun _ => h _, h _⟩, ?_⟩
  rintro ⟨hnop, hconfigure, hstart, hbyte, hfinal, hcheck, hreverse, hclearErr⟩ i
  cases i with
  | nop => exact hnop
  | configure => exact hconfigure
  | start => exact hstart
  | byte v => exact hbyte v
  | final => exact hfinal
  | check => exact hcheck
  | reverse n => exact hreverse n
  | clearErr => exact hclearErr

/-- Words are equal when their fields are (R81). -/
theorem joinFields_inj {op op' : BitVec 8} {arg arg' : BitVec 24} :
    joinFields op arg = joinFields op' arg' ↔ op = op' ∧ arg = arg' := by
  refine ⟨fun h => ⟨?_, ?_⟩, fun ⟨ho, ha⟩ => by rw [ho, ha]⟩
  · simpa using congrArg opField h
  · simpa using congrArg argField h

/-- A mask acts on the two fields apart. -/
theorem and_joinFields (w : Word) (op : BitVec 8) (arg : BitVec 24) :
    w &&& joinFields op arg = joinFields (opField w &&& op) (argField w &&& arg) := by
  conv_lhs => rw [← joinFields_fields w]
  exact BitVec.and_append

/-- A row whose mask keeps OP and the bits m of ARG (R85). -/
theorem and_rowMask_eq_iff (w : Word) (op : BitVec 8) (m : BitVec 24) :
    w &&& joinFields 0xFF m = joinFields op 0 ↔ opField w = op ∧ argField w &&& m = 0 := by
  have hop : opField w &&& 0xFF = opField w := BitVec.and_allOnes
  rw [and_joinFields, hop, joinFields_inj]

/-- The mask of form R on ARG: w[23:7] is 0 (R84). -/
theorem and_reverseMask_eq_zero_iff (arg : BitVec 24) : arg &&& 0xFFFF80 = 0 ↔ reverseZeroField arg = 0 := by
  have hfields : reverseZeroField arg ++ nbitsField arg = arg :=
    (BitVec.extractLsb'_append_extractLsb'_eq_extractLsb' rfl).trans BitVec.extractLsb'_eq_self
  have hmask : arg &&& 0xFFFF80 = reverseZeroField arg ++ 0#7 := by
    conv_lhs => rw [← hfields]
    refine (BitVec.and_append (x₂ := BitVec.allOnes 17) (y₂ := 0#7)).trans ?_
    rw [BitVec.and_allOnes, BitVec.and_zero]
  rw [hmask]
  exact BitVec.append_left_inj (s₂ := 0#17) 0#7

/-- The row of BYTE (R83, R85). -/
theorem exists_decode_byte_iff (w : Word) :
    (∃ v, decode w = .command (.byte v)) ↔ w &&& 0xFF000000 = 0x03000000 := by
  have hrow : w &&& 0xFF000000 = 0x03000000 ↔ opField w = 0x03 :=
    (and_rowMask_eq_iff w 0x03 0).trans (and_iff_left BitVec.and_zero)
  rw [hrow]
  constructor
  · rintro ⟨v, h⟩
    exact (fields_of_decodeFields h).1
  · intro h
    exact ⟨_, by rw [decode, h]; rfl⟩

/-- The row of REVERSE (R84, R85). -/
theorem exists_decode_reverse_iff (w : Word) :
    (∃ n, decode w = .command (.reverse n)) ↔ w &&& 0xFFFFFF80 = 0x06000000 := by
  have hrow : w &&& 0xFFFFFF80 = 0x06000000 ↔ opField w = 0x06 ∧ reverseZeroField (argField w) = 0 :=
    (and_rowMask_eq_iff w 0x06 0xFFFF80).trans (and_congr_right' (and_reverseMask_eq_zero_iff _))
  have hform : opField w = 0x06 → decode w = decodeR (argField w) := fun h => by rw [decode, h]; rfl
  rw [hrow]
  constructor
  · rintro ⟨n, h⟩
    have hop : opField w = 0x06 := (fields_of_decodeFields h).1
    refine ⟨hop, by_contra fun hz => ?_⟩
    rw [hform hop, decodeR, if_neg hz] at h
    cases h
  · rintro ⟨hop, hz⟩
    exact ⟨_, by rw [hform hop, decodeR, if_pos hz]⟩

/-- A word is illegal exactly when it decodes to no command (R88). -/
theorem exists_decode_illegal_iff {w : Word} : (∃ why, decode w = .illegal why) ↔ ∀ i, decode w ≠ .command i := by
  cases decode w <;> simp

/-- Settles O3: six rows hold one word each, two are masks on the fields, and the illegal words are what is left. -/
theorem opcodeMapRowsAreTheirMasks : Obligations.OpcodeMapRowsAreTheirMasks := by
  intro w
  have hfull : w &&& 0xFFFFFFFF = w := BitVec.and_allOnes
  have hnop := decode_eq_command_iff_eq (i := .nop) (c := 0x00000000) rfl rfl w
  have hconfigure := decode_eq_command_iff_eq (i := .configure) (c := 0x01000000) rfl rfl w
  have hstart := decode_eq_command_iff_eq (i := .start) (c := 0x02000000) rfl rfl w
  have hfinal := decode_eq_command_iff_eq (i := .final) (c := 0x04000000) rfl rfl w
  have hcheck := decode_eq_command_iff_eq (i := .check) (c := 0x05000000) rfl rfl w
  have hclearErr := decode_eq_command_iff_eq (i := .clearErr) (c := 0x07000000) rfl rfl w
  have hbyte := exists_decode_byte_iff w
  have hreverse := exists_decode_reverse_iff w
  rw [hfull, exists_decode_illegal_iff, Instr.forall_iff]
  refine ⟨hnop, hconfigure, hstart, hbyte, hfinal, hcheck, hreverse, hclearErr, ?_⟩
  simp only [ne_eq, ← not_exists, hnop, hconfigure, hstart, hbyte, hfinal, hcheck, hreverse, hclearErr]

/-! ## The illegal words -/

/-- A form that asks for P refuses exactly the words without it (R82, R84). -/
theorem exists_ite_illegal_iff {P : Prop} [Decidable P] (i : Instr) (reason : Illegal) :
    (∃ why, (if P then Decoded.command i else .illegal reason) = .illegal why) ↔ ¬P := by
  by_cases h : P <;> simp [h]

/-- R86 (b): form Z. -/
theorem exists_decodeZ_illegal_iff (i : Instr) (arg : BitVec 24) :
    (∃ why, decodeZ i arg = .illegal why) ↔ arg.toNat ≠ 0 := by
  have hz : arg.toNat = 0 ↔ arg = 0 := BitVec.toNat_inj (y := 0)
  rw [decodeZ, exists_ite_illegal_iff, ne_eq, hz]

/-- R86 (c): form R. -/
theorem exists_decodeR_illegal_iff (arg : BitVec 24) :
    (∃ why, decodeR arg = .illegal why) ↔ arg.toNat >>> 7 ≠ 0 := by
  have hlt := arg.isLt
  have hfield : (reverseZeroField arg).toNat = arg.toNat >>> 7 := by
    rw [reverseZeroField, BitVec.extractLsb'_toNat, Nat.mod_eq_of_lt]
    omega
  have hz : arg.toNat >>> 7 = 0 ↔ reverseZeroField arg = 0 := by
    rw [← hfield]
    exact BitVec.toNat_inj (y := 0)
  rw [decodeR, exists_ite_illegal_iff, ne_eq, hz]

/-- The three cases of R86, on the two fields. -/
theorem exists_decodeFields_illegal_iff (op : BitVec 8) (arg : BitVec 24) :
    (∃ why, decodeFields op arg = .illegal why) ↔
      (8 ≤ op.toNat ∨
        ((op.toNat = 0 ∨ op.toNat = 1 ∨ op.toNat = 2 ∨ op.toNat = 4 ∨ op.toNat = 5 ∨ op.toNat = 7) ∧ arg.toNat ≠ 0) ∨
        (op.toNat = 6 ∧ arg.toNat >>> 7 ≠ 0)) := by
  unfold decodeFields
  split
  case h_4 hop => simp [hop, decodeB]
  case h_7 hop => simp [hop, exists_decodeR_illegal_iff]
  case h_9 =>
    have hreserved : 8 ≤ op.toNat := by
      simp only [imp_false] at *
      omega
    simp [hreserved]
  all_goals
    rename_i hop
    simp [hop, exists_decodeZ_illegal_iff]

/-- OP is the top byte (R81). -/
theorem toNat_opField (w : Word) : (opField w).toNat = w.toNat >>> 24 := by
  have hlt := w.isLt
  rw [opField, BitVec.extractLsb'_toNat, Nat.mod_eq_of_lt]
  omega

/-- ARG is the rest (R81). -/
theorem toNat_argField (w : Word) : (argField w).toNat = w.toNat % 2 ^ 24 := BitVec.extractLsb'_toNat ..

namespace Machine

/-- The acceptance of an illegal word: discarded like a command's while ERROR = 1, since it is not CLEAR_ERR's word
(R86, R206). -/
theorem acceptWord_illegal {w : Word} {why : Illegal} (hd : decode w = .illegal why) (s : State) :
    acceptWord w s = .next (if s.status.error then s else raiseError .illegalCommand s) := by
  have hw : w ≠ 0x07000000 := by
    rw [ne_eq, ← decode_eq_clearErr_iff, hd]
    exact nofun
  simp only [acceptWord, hd, ne_eq, hw, not_false_eq_true, and_true]
  split <;> rfl

/-- Settles O4: the fields of the word decide, and with BUSY = 0 the step is the word's acceptance. -/
theorem illegalWordsAndTheirAcceptance : Obligations.IllegalWordsAndTheirAcceptance := by
  refine fun w => ⟨?_, fun s hb hi ⟨why, hd⟩ => ?_⟩
  · rw [← toNat_opField, ← toNat_argField]
    exact exists_decodeFields_illegal_iff _ _
  · rw [step_issue hb hi, acceptWord_illegal hd]
    rfl

end Machine

end Sys2Proof
end

section
/-! A poll, and the run of CHECK against the run of its message (R89, R90, R159). -/

namespace Sys2Proof.Machine

/-! ## Polls -/

/-- Settles O12: both answers of a poll read the register once and leave the block. -/
theorem pollRepeatsUntilTheConditionHolds : Obligations.PollRepeatsUntilTheConditionHolds := by
  intro s off m v h ha hacc
  obtain ⟨s', hs, hstep⟩ := step_hostAccesses hacc
  rw [hostStep, hostPoll, ← params_schedule hs, select_word h ha] at hstep
  simp only [readReg_schedule hs] at hstep
  split at hstep
  · rename_i hcond
    refine ⟨_, hstep, rfl, (blockOnly_schedule hs :), ?_⟩
    rw [if_pos hcond]
    exact congrArg List.tail (host_schedule hs)
  · rename_i hcond
    refine ⟨_, hstep, rfl, (blockOnly_schedule hs :), ?_⟩
    rw [if_neg hcond]
    exact (host_schedule hs :)

/-! ## CHECK -/

/-- A command with a crc.wait behind it runs for what the schedule gives the HOST (R90, R107). -/
theorem run_command_crcWait {s : State} {i : Instr} (h : Accepts s i) (hh : s.host.tail = crcWait s.params) :
    ∃ (k : Nat) (x : State), Host.Core.run Sys2Proof.core k s = .next x ∧ x.host = [] ∧
      blockOnly x = blockOnly (completed i (accepted i s)) := by
  have hqueue : (accepted i s).host = crcWait (accepted i s).params ++ [] := by simp [hh]
  obtain ⟨k, x, hrun, hx⟩ := run_crcWait (accepted_busy i s) (decode_accepted h) hqueue
  exact ⟨k + 1, x, (core_run_succ (step_accepts h)).trans hrun, hx⟩

/-- A block that CHECK has left holds the digest of CHECK_MESSAGE, whatever the HOST and the schedule are; crc is not
written (R159). -/
theorem leavesDigest_check {s x : State} (h : BlockInv s) (he : s.status.error = false)
    (hc : s.status.configured = true) (ho : s.status.isOpen = false)
    (hx : blockOnly x = blockOnly (completed .check (accepted .check s))) :
    LeavesDigest s (calculate s.act.numbers (tableNumbers s.table) checkMessage) x ∧ x.crc = s.crc := by
  obtain ⟨-, hw, -, -, -⟩ := h.active hc
  obtain ⟨hstatus, hresult, hact, htable⟩ := fields_of_blockOnly_eq hx
  have hdigest : x.result = toValue (calculate s.act.numbers (tableNumbers s.table) checkMessage) := by
    simpa using hresult
  have hcrc : x.crc = (completed .check (accepted .check s)).crc := (congrArg State.crc hx :)
  refine ⟨?_, by simpa using hcrc⟩
  exact
    { busy := by simp [hstatus]
      error := by simp [hstatus, he]
      isOpen := by simp [hstatus, ho]
      resultValid := by simp [hstatus]
      result := by rw [hdigest, toNat_toValue (h.calculate_lt hc checkMessage_lt) (hw.trans h.wmax_le)]
      act := by simp [hact]
      table := by simp [htable] }

/-- Settles O59: both runs of CHECK and the run of the message leave the one digest in RESULT. -/
theorem checkEqualsTheMessageOfTheNineDigits : Obligations.CheckEqualsTheMessageOfTheNineDigits := by
  intro s h hb he hc ho
  have hmsg := crcMessage_eq s.params (m := checkMessage) fun b hm => (checkMessage_lt b hm).trans (by decide)
  obtain ⟨w, hrun, -, hw⟩ := run_message h hb he hc ho checkMessage_lt
  have haccepts (ops : List HostOp) : Accepts { s with host := issue s.params (encode .check) :: ops } .check :=
    accepts_of_checks rfl hb he ((needsNoMessage_eq_none_iff s).mpr ⟨hc, ho⟩) rfl
  have hcheck := run_command (haccepts []) (.inl rfl)
  obtain ⟨k, u, hwait, hhost, hu⟩ := run_command_crcWait (haccepts (crcWait s.params)) rfl
  refine ⟨_, k, _, u, w, hmsg, hrun, hcheck, hwait, fun x hx => ?_⟩
  obtain ⟨hempty, hblock⟩ : x.host = [] ∧ blockOnly x = blockOnly (completed .check (accepted .check s)) := by
    rcases hx with rfl | rfl
    · exact ⟨rfl, rfl⟩
    · exact ⟨hhost, hu⟩
  obtain ⟨hd, hcrc⟩ := leavesDigest_check h he hc ho hblock
  exact ⟨⟨hempty, hd.busy⟩, BitVec.eq_of_toNat_eq (hd.result.trans hw.result.symm), hcrc, hd.isOpen, hd.resultValid,
    hd.act, hd.table⟩

end Sys2Proof.Machine
end

section
/-! What the assembler issues (R89, R90). -/

namespace Sys2Proof

/-- Two words are joined field by field (R81). -/
theorem or_joinFields (op op' : BitVec 8) (arg arg' : BitVec 24) :
    joinFields op arg ||| joinFields op' arg' = joinFields (op ||| op') (arg ||| arg') := BitVec.or_append

/-- An operand that fits ARG stands in the word's low bits (R81, R83, R84). -/
theorem joinFields_ofNat (op : BitVec 8) {n : Nat} (hn : n < 2 ^ 24) :
    joinFields op (BitVec.ofNat 24 n) = joinFields op 0 ||| BitVec.ofNat 32 n := by
  have hword : BitVec.ofNat 32 n = joinFields 0 (BitVec.ofNat 24 n) := by
    refine BitVec.eq_of_toNat_eq ?_
    rw [joinFields, BitVec.toNat_append, BitVec.toNat_ofNat, BitVec.toNat_ofNat]
    simp
    omega
  have hop : op ||| 0 = op := BitVec.or_zero
  have harg : 0 ||| BitVec.ofNat 24 n = BitVec.ofNat 24 n := BitVec.zero_or
  rw [hword, or_joinFields, hop, harg]

namespace Machine

/-! ## Commands -/

/-- What does not fit its field is refused (R89). -/
theorem assemble_refused (p : Params) {i : Instr} (h : i.wellFormed = false) : assemble p i = none := by
  simp [assemble, h]

/-- BYTE's word (R83, R89). -/
theorem issue_byte (p : Params) {v : Nat} (hv : v < 2 ^ 24) :
    issue p (encode (.byte v)) = wr p 0x030 (0x03000000 ||| BitVec.ofNat 32 v) :=
  congrArg (wr p 0x030) (joinFields_ofNat 0x03 hv)

/-- REVERSE's word (R84, R89). -/
theorem issue_reverse (p : Params) {n : Nat} (hn : n < 2 ^ 24) :
    issue p (encode (.reverse n)) = wr p 0x030 (0x06000000 ||| BitVec.ofNat 32 n) :=
  congrArg (wr p 0x030) (joinFields_ofNat 0x06 hn)

/-! ## Messages -/

/-- The BYTE commands' words (R90). -/
theorem byteOps_eq (p : Params) {m : List Nat} (hm : ∀ b ∈ m, b < 2 ^ 24) :
    byteOps p m = m.map fun b => wr p 0x030 (0x03000000 ||| BitVec.ofNat 32 b) :=
  List.map_congr_left fun b hb => issue_byte p (hm b hb)

/-- crc.bytes of what fits VALUE (R90). -/
theorem crcBytes_eq (p : Params) {m : List Nat} (hm : ∀ b ∈ m, b < 2 ^ 24) : crcBytes p m = some (byteOps p m) := by
  rw [crcBytes, assembleAll_wellFormed p (by simpa [Instr.wellFormed] using hm), List.map_map]
  rfl

/-- crc.calc of what fits VALUE (R90). -/
theorem crcCalc_eq (p : Params) {m : List Nat} (hm : ∀ b ∈ m, b < 2 ^ 24) :
    crcCalc p m = some (issue p (encode .start) ::
      (byteOps p m ++ issue p (encode .final) :: crcWait p)) := by
  simp [crcCalc, crcMessage_eq p hm]

/-- crc.bytes is refused when a byte does not fit VALUE (R89, R90). -/
theorem crcBytes_refused (p : Params) {m : List Nat} (hm : ∃ b ∈ m, 2 ^ 24 ≤ b) : crcBytes p m = none := by
  obtain ⟨b, hb, hlarge⟩ := hm
  exact assembleAll_refused p ⟨_, List.mem_map_of_mem hb, by simpa [Instr.wellFormed] using hlarge⟩

/-! ## Accesses -/

/-- The CFG_FLAGS word of crc.setcfg (R25, R90). -/
theorem flagsOperand_eq (ri ro : Bool) :
    (0#30 ++ BitVec.ofBool ro ++ BitVec.ofBool ri : Word) =
      ((if ri then 1 else 0) ||| ((if ro then 1 else 0) <<< 1)) := by
  cases ri <;> cases ro <;> rfl

/-- Settles O60: a command is the issue of its word, and every expansion is the list R90 gives. -/
theorem assemblerIssuesTheCommandWord : Obligations.AssemblerIssuesTheCommandWord := by
  refine ⟨fun p m hm => ?_, fun p m hm => ?_, fun p w P I X ri ro => ?_, fun p v => ?_⟩
  · have hbytes := crcBytes_refused p hm
    exact ⟨hbytes, by simp [crcCalc, crcMessage, hbytes]⟩
  · rw [← byteOps_eq p hm]
    exact ⟨crcBytes_eq p hm, crcCalc_eq p hm⟩
  · refine ⟨rfl, ?_, rfl, rfl, rfl⟩
    rw [crcSetcfg, flagsOperand_eq]
    rfl
  · refine ⟨rfl, rfl, rfl, rfl, rfl, rfl, fun hv => ?_, fun hv => ?_, fun hv => ?_, fun hv => ?_⟩
    · rw [assemble_wellFormed p (by simpa [Instr.wellFormed] using hv), issue_byte p hv]
    · exact assemble_refused p (by simpa [Instr.wellFormed] using hv)
    · rw [assemble_wellFormed p (by simpa [Instr.wellFormed] using hv), issue_reverse p (hv.trans (by decide))]
    · exact assemble_refused p (by simpa [Instr.wellFormed] using hv)

end Machine

end Sys2Proof
end

section
/-! The completion of a command (R102, R103), and the waits of the HOST that end with it or spin (R107). -/

namespace Sys2Proof.Machine

/-! ## What a completion leaves -/

@[simp] theorem completed_reply (i : Instr) (s : State) : (completed i s).reply = s.reply := by cases i <;> rfl

/-- Every completion but CLEAR_ERR's leaves ERROR and ERR_CAUSE (R102). -/
theorem completed_error {i : Instr} (hi : i ≠ .clearErr) (s : State) :
    (completed i s).status.error = s.status.error ∧ (completed i s).status.errCause = s.status.errCause := by
  cases i with
  | clearErr => exact absurd rfl hi
  | _ => exact ⟨rfl, rfl⟩

/-- Settles O37: with its word in the latch exec is the command's completion, which checks nothing. -/
theorem completionsRaiseNoError : Obligations.CompletionsRaiseNoError := by
  refine fun s i hp => ⟨completed i s, exec_inProgress hp, completed_busy i s, fun hi => completed_error hi s, ?_⟩
  rintro rfl
  exact ⟨rfl, rfl⟩

/-! ## No accepted command is pending for ever -/

/-- An ENGINE step clears BUSY and leaves the HOST's queue and its last answer (R103). -/
theorem step_engineMoves_clearsBusy {s : State} (h : BlockInv s) (hm : EngineMoves s) :
    ∃ t, step s = .next t ∧ t.status.busy = false ∧ t.host = s.host ∧ t.reply = s.reply := by
  obtain ⟨i, hc⟩ := h.completes hm
  obtain ⟨s', hs, hstep⟩ := step_completes hc
  refine ⟨completed i s', hstep, completed_busy i s', ?_⟩
  rcases hs with rfl | rfl <;> simp

/-- A HOST access in the window while BUSY = 1 leaves the command in progress, and the schedule comes nearer to the
ENGINE's turn (R107). -/
theorem step_hostAccesses_busy {s : State} {op : HostOp} (hb : s.status.busy = true) (hwin : HostInWindow s)
    (hacc : HostAccesses s op) :
    ∃ t, step s = .next t ∧ t.status.busy = true ∧ HostInWindow t ∧ hostTurnsLeft t < hostTurnsLeft s := by
  obtain ⟨hop, hn, hturn⟩ := hacc
  obtain ⟨rest, hh⟩ := List.head?_eq_some_iff.mp hop
  have ht : nextTurn s = .host := by simpa [hb] using hturn
  have hstep := step_hostTurn hb hh hn ht
  rcases hostStep_next_or_refused op (spendTurn s) with ⟨t, hnext⟩ | ⟨-, hout⟩
  · have hlt := hostTurnsLeft_spendTurn_lt ht
    obtain ⟨r, d, l, a, hl, rfl⟩ := hostStep_cases (s := spendTurn s) hn hnext
    refine ⟨_, hstep.trans hnext, by simpa using hb, fun op' hop' => ?_, by simpa [hostTurnsLeft] using hlt⟩
    have hmem : op' ∈ s.host := by
      rcases hl with rfl | rfl
      · exact hop'
      · exact List.mem_of_mem_tail hop'
    simpa using hwin op' hmem
  · exact absurd (hwin op (List.mem_of_mem_head? hop)) hout

/-- A command in progress is completed once the schedule's HOST steps are used up (R107). -/
theorem run_clearsBusy {s : State} (h : BlockInv s) (hwin : HostInWindow s) (hb : s.status.busy = true) :
    ∃ (k : Nat) (t : State), Host.Core.run Sys2Proof.core k s = .next t ∧ t.status.busy = false := by
  induction hn : hostTurnsLeft s using Nat.strong_induction_on generalizing s with
  | _ n ih =>
    rcases step_kinds s with ⟨-, hidle⟩ | hm | ⟨hidle, -⟩ | ⟨op, hacc⟩
    · exact absurd (hidle.symm.trans hb) Bool.false_ne_true
    · obtain ⟨t, hstep, hdone, -⟩ := step_engineMoves_clearsBusy h hm
      exact ⟨1, t, core_run_succ hstep, hdone⟩
    · exact absurd (hidle.symm.trans hb) Bool.false_ne_true
    · obtain ⟨u, hstep, hbu, hwinu, hlt⟩ := step_hostAccesses_busy hb hwin hacc
      obtain ⟨k, t, hrun, hdone⟩ := ih _ (hn ▸ hlt) (blockInv_step h hstep) hwinu hbu rfl
      exact ⟨k + 1, t, (core_run_succ hstep).trans hrun, hdone⟩

/-! ## The waits of the HOST -/

/-- crc.wait ends, with or without a command in progress, and leaves BUSY = 0 (R90, R107). -/
theorem run_crcWait_ends {s : State} {rest : List HostOp} (h : BlockInv s) (hh : s.host = crcWait s.params ++ rest) :
    ∃ (k : Nat) (t : State), Host.Core.run Sys2Proof.core k s = .next t ∧ t.host = rest ∧ t.status.busy = false := by
  cases hb : s.status.busy with
  | false =>
    obtain ⟨t, hstep, hhost, hblock⟩ := step_crcWait_idle hb hh
    obtain ⟨hstatus, -⟩ := fields_of_blockOnly_eq hblock
    exact ⟨1, t, core_run_succ hstep, hhost, hstatus ▸ hb⟩
  | true =>
    obtain ⟨i, hd, -⟩ := h.busyLatch hb
    obtain ⟨k, t, hrun, hhost, hblock⟩ := run_crcWait hb hd hh
    obtain ⟨hstatus, -⟩ := fields_of_blockOnly_eq hblock
    exact ⟨k, t, hrun, hhost, hstatus ▸ completed_busy i s⟩

/-- A poll on CONFIGURED = 1 is not finished while CONFIGURED = 0 (R32). -/
theorem readReg_status_and_two {s : State} (hc : s.status.configured = false) : readReg .status s &&& 0x2 ≠ 0x2 := by
  have hbit : (readReg .status s)[1] = false := (getLsbD_statusWord s.status 1).trans hc
  intro hw
  have hone := congrArg (fun w : Word => w.getLsbD 1) hw
  simp [hbit] at hone

/-- R107's example of a poll that spins: each read finds the block, and leaves it, as it was. -/
theorem run_poll_spins {s : State} {rest : List HostOp} (hb : s.status.busy = false)
    (hc : s.status.configured = false) (hh : s.host = poll s.params 0x034 0x2 0x2 :: rest) (k : Nat) :
    ∃ t : State, Host.Core.run Sys2Proof.core k s = .next t ∧ t.host = s.host ∧ blockOnly t = blockOnly s := by
  induction k generalizing s with
  | zero => exact ⟨s, rfl, rfl, rfl⟩
  | succ k ih =>
    have hacc : HostAccesses s (.poll (s.params.base + 0x034) 0x2 0x2) := ⟨by rw [hh]; rfl, rfl, .inl hb⟩
    obtain ⟨u, hstep, -, hblock, hhost⟩ :=
      pollRepeatsUntilTheConditionHolds s 0x034 0x2 0x2 (by decide) (by decide) hacc
    replace hhost : u.host = s.host := hhost.trans (if_neg (readReg_status_and_two hc))
    obtain ⟨hstatus, -⟩ := fields_of_blockOnly_eq hblock
    obtain ⟨t, hrun, hhost', hblock'⟩ :=
      ih (s := u) (hstatus ▸ hb) (hstatus ▸ hc) (by rw [hhost, step_params hstep, hh])
    exact ⟨t, (core_run_succ hstep).trans hrun, hhost'.trans hhost, hblock'.trans hblock⟩

/-- Settles O13: the ENGINE's step completes, the schedule is fair to it, and so crc.wait ends; a poll that no event
answers spins. -/
theorem engineStepClearsBusy : Obligations.EngineStepClearsBusy :=
  ⟨fun _ => step_engineMoves_clearsBusy, fun _ => run_clearsBusy, fun _ _ => run_crcWait_ends,
    fun _ _ k hb hc hh => run_poll_spins hb hc hh k⟩

end Sys2Proof.Machine
end

section
/-! Bit reversal: the laws of the function (R120, R121), and the command REVERSE (R122). -/

namespace Sys2Proof.Machine

/-! ## reverseBits -/

/-- reverseBits answers exactly the values that fit, with the loop's result (R120). -/
theorem reverseBits_eq_some_iff {v n r : Nat} : reverseBits v n = some r ↔ v < 2 ^ n ∧ reversedBits v n = r := by
  unfold reverseBits
  split
  next h => simp [h]
  next h => simp [not_le.mp h]

/-- It fails exactly on the others (R120, R121). -/
theorem reverseBits_eq_none_iff {v n : Nat} : reverseBits v n = none ↔ 2 ^ n ≤ v := by
  simp [Option.eq_none_iff_forall_ne_some, reverseBits_eq_some_iff]

/-- A value that fits is reversed (R120). -/
theorem reverseBits_of_lt {v n : Nat} (h : v < 2 ^ n) : reverseBits v n = some (reversedBits v n) :=
  reverseBits_eq_some_iff.mpr ⟨h, rfl⟩

/-- A use on a value that fits does not fail (R121). -/
theorem reverseBits_ne_none {v n : Nat} (h : v < 2 ^ n) : reverseBits v n ≠ none :=
  fun hn => h.not_ge (reverseBits_eq_none_iff.mp hn)

/-! ## The laws of the reversed value -/

/-- Reversing twice: position n - 1 - (n - 1 - j) is position j (R121). -/
theorem reversedBits_reversedBits {v n : Nat} (h : v < 2 ^ n) : reversedBits (reversedBits v n) n = v := by
  refine Nat.eq_of_testBit_eq fun j => ?_
  rw [testBit_reversedBits, testBit_reversedBits]
  by_cases hj : j < n
  · have hback : n - 1 - (n - 1 - j) = j := by omega
    have hlt : n - 1 - j < n := by omega
    rw [hback, decide_eq_true hj, decide_eq_true hlt, Bool.true_and, Bool.true_and]
  · rw [decide_eq_false hj, Bool.false_and]
    exact (Nat.testBit_lt_two_pow (h.trans_le (Nat.pow_le_pow_right (by decide) (not_lt.mp hj)))).symm

/-- 0 is its own reversal (R121). -/
@[simp] theorem reversedBits_zero (n : Nat) : reversedBits 0 n = 0 :=
  Nat.eq_of_testBit_eq fun j => by simp [testBit_reversedBits]

/-- The all-ones value is its own reversal (R121). -/
@[simp] theorem reversedBits_mask (n : Nat) : reversedBits (mask n) n = mask n := by
  refine Nat.eq_of_testBit_eq fun j => ?_
  rw [testBit_reversedBits, testBit_mask, testBit_mask]
  by_cases hj : j < n
  · have hlt : n - 1 - j < n := by omega
    rw [decide_eq_true hj, decide_eq_true hlt, Bool.true_and]
  · rw [decide_eq_false hj, Bool.false_and]

/-! ## INVALID_REVERSE_VALUE -/

/-- A step that changes ERR_CAUSE to a real cause is the error of that cause (R37, R204). -/
theorem raises_of_errCause {s t : State} {c : ErrorCause} (h : step s = .next t) (hc : c ≠ .noError)
    (hs : s.status.errCause ≠ c) (ht : t.status.errCause = c) : Raises s c := by
  obtain ⟨hraise, hclear, hother⟩ := step_error h
  by_cases hr : ∃ cause, Raises s cause
  · obtain ⟨cause, hr⟩ := hr
    rwa [← ht, (hraise cause hr).2]
  · by_cases hk : Completes s .clearErr
    · exact absurd (ht.symm.trans (hclear hk).2) hc
    · exact absurd ((hother hr hk).2.symm.trans ht) hs

/-- Only the checks of REVERSE name INVALID_REVERSE_VALUE (R121, R122). -/
theorem reverse_of_commandChecks {i : Instr} {s : State} (h : commandChecks i s = some .invalidReverseValue) :
    ∃ nbits, i = .reverse nbits := by
  cases i with
  | reverse nbits => exact ⟨nbits, rfl⟩
  | nop => cases h
  | clearErr => cases h
  | configure =>
    simp only [commandChecks, configureChecks] at h
    split at h
    · cases h
    · simpa using firstFailing_mem h
  | start => simpa using firstFailing_mem h
  | byte value => simpa using firstFailing_mem h
  | final => simpa using firstFailing_mem h
  | check => simpa using firstFailing_mem h

/-- An error with INVALID_REVERSE_VALUE is a REVERSE's (R121). -/
theorem Raises.issues_reverse {s : State} (h : Raises s .invalidReverseValue) :
    ∃ w nbits, Issues s w ∧ decode w = .command (.reverse nbits) := by
  obtain ⟨-, -, w, hi, ⟨-, hc⟩ | ⟨i, hd, hc⟩⟩ := h
  · cases hc
  · obtain ⟨nbits, rfl⟩ := reverse_of_commandChecks hc
    exact ⟨w, nbits, hi, hd⟩

/-- Settles O51: the laws are read off the bits of the reversed value; the internal uses are on values that fit. -/
theorem reverseBitsLaws : Obligations.ReverseBitsLaws := by
  refine ⟨fun v n => ⟨reverseBits_eq_none_iff, reverseBits_of_lt⟩,
    fun v n hv => ⟨reversedBits_lt v n, reversedBits_reversedBits hv, fun j hj => ?_⟩,
    fun n => ⟨reversedBits_zero n, reversedBits_mask n⟩,
    fun v hv => ⟨Nat.lt_one_iff.mp hv, rfl⟩,
    fun wmax v hv => ?_,
    fun s h ho => reverseBits_ne_none (h.openCrc ho),
    fun s t h hs ht => (raises_of_errCause h ErrorCause.noConfusion hs ht).issues_reverse⟩
  · rw [testBit_reversedBits, decide_eq_true hj, Bool.true_and]
  · obtain ⟨-, -, hp, hi, -⟩ := (validate_eq_none_iff wmax v).mp hv
    exact ⟨reverseBits_ne_none hp, reverseBits_ne_none hi⟩

/-! ## REVERSE -/

/-- With BUSY = 0 and ERROR = 0 a command whose checks pass is latched (R101). -/
theorem exec_of_passing {s : State} {i : Instr} (hb : s.status.busy = false) (he : s.status.error = false)
    (hc : commandChecks i s = none) : exec i s = .next (beginBusy (acceptanceEffects i (latchCommand i s))) := by
  simp [exec_idle i hb, acceptCommand, he, hc]

/-- The latch takes the two fields of the command (R81, R101). -/
theorem latchCommand_eq (i : Instr) (s : State) :
    latchCommand i s = { s with latch := { s.latch with op := i.opcode, arg := i.argument } } := by
  rw [latchCommand, opField_encode, argField_encode]

/-- A command in progress is the one its latched word decodes to (R47, R88). -/
theorem InProgress.decode_eq {s : State} {i : Instr} (h : InProgress s i) (hwf : i.wellFormed = true) :
    decode (latchedWord s) = .command i := by
  rw [h.2, decode_encode hwf]

/-- A REVERSE whose number of bits fits NBITS is well formed (R84). -/
theorem wellFormed_reverse {nbits : Nat} (h : nbits < 2 ^ 7) : (Instr.reverse nbits).wellFormed = true :=
  decide_eq_true h

/-- The checks of REVERSE in their order (R122, R205). -/
theorem reverseChecks_eq (nbits : Nat) (s : State) :
    reverseChecks nbits s =
      if nbits > s.params.wmax then some .invalidNbits
      else if s.operand.toNat ≥ 2 ^ nbits then some .invalidReverseValue else none := by
  simp [reverseChecks, firstFailing]

/-- Settles O33: the word is the command's encoding, the checks are taken in their order, and NBITS is read back from
the latch. -/
theorem reverseWritesTheReversedOperand : Obligations.ReverseWritesTheReversedOperand := by
  refine ⟨fun nbits hn => ?_, fun s nbits hn hb he => ?_, fun s nbits r hn hp hr => ?_⟩
  · have hword : encode (.reverse nbits) = 0x06000000 ||| BitVec.ofNat 32 nbits :=
      joinFields_ofNat 0x06 (hn.trans (by decide))
    rw [← hword, decode_encode (wellFormed_reverse hn)]
  · have hchecks := reverseChecks_eq nbits s
    split at hchecks
    next hlong => rw [exec_of_failing (i := .reverse nbits) hb he hchecks, if_pos hlong]
    next hfits =>
      rw [if_neg hfits]
      split at hchecks
      next hlarge => rw [exec_of_failing (i := .reverse nbits) hb he hchecks, if_pos hlarge]
      next hsmall =>
        rw [exec_of_passing (i := .reverse nbits) hb he hchecks, if_neg hsmall, latchCommand_eq]
        rfl
  · have hnbits : (nbitsField s.latch.arg).toNat = nbits := nbitsField_latch (hp.decode_eq (wellFormed_reverse hn))
    obtain ⟨-, rfl⟩ := reverseBits_eq_some_iff.mp hr
    rw [exec_inProgress hp, ← hnbits]
    rfl

end Sys2Proof.Machine
end

section
/-! The laws of the table (R134 to R136). -/

namespace Sys2Proof.Machine

/-! ## Linearity -/

/-- What a bit selects is linear in the bit over XOR. -/
theorem selected_xor (p : Nat) (a b : Bool) :
    (if (a ^^ b) = true then p else 0) = (if a = true then p else 0) ^^^ (if b = true then p else 0) := by
  cases a <;> cases b <;> simp

/-- A non-reflected bit step is linear over XOR: the shift, the truncation and the tested bit are (R134). -/
theorem bitStepN_xor (w p : Nat) : Function.Semiconj₂ (bitStepN w p) (· ^^^ ·) (· ^^^ ·) := by
  intro x y
  simp only [bitStepN_eq, Nat.shiftLeft_xor_distrib, Nat.xor_mod_two_pow, Nat.testBit_xor]
  rw [selected_xor]
  ac_rfl

/-- A reflected bit step is linear over XOR (R135). -/
theorem bitStepR_xor (p : Nat) : Function.Semiconj₂ (bitStepR p) (· ^^^ ·) (· ^^^ ·) := by
  intro x y
  simp only [bitStepR_eq, Nat.shiftRight_xor_distrib, Nat.testBit_xor]
  rw [selected_xor]
  ac_rfl

/-- The table is linear over XOR (R136). -/
theorem genTable_xor (w p : Nat) (ri : Bool) (a b : Nat) :
    genTable w p ri (a ^^^ b) = genTable w p ri a ^^^ genTable w p ri b := by
  cases ri
  · simp only [genTable, genN, Nat.shiftLeft_xor_distrib]
    exact (bitStepN_xor w p).iterate 8 _ _
  · exact (bitStepR_xor p).iterate 8 a b

/-- Entry 0 is 0 (R136), since 0 = 0 XOR 0. -/
theorem genTable_zero (w p : Nat) (ri : Bool) : genTable w p ri 0 = 0 := by
  simpa using genTable_xor w p ri 0 0

/-! ## The entry of the polynomial -/

/-- A bit below the top one is shifted up (R134). -/
theorem bitStepN_two_pow {w n : Nat} (p : Nat) (h : n + 1 < w) : bitStepN w p (2 ^ n) = 2 ^ (n + 1) := by
  have hbit : n ≠ w - 1 := by omega
  have hlt : 2 ^ (n + 1) < 2 ^ w := Nat.pow_lt_pow_right (by decide) h
  rw [bitStepN_eq, Nat.testBit_two_pow, decide_eq_false hbit, Nat.shiftLeft_eq, ← pow_add, Nat.mod_eq_of_lt hlt]
  simp

/-- The top bit is shifted out, and the polynomial is left (R134). -/
theorem bitStepN_top (w p : Nat) : bitStepN (w + 1) p (2 ^ w) = p := by
  rw [bitStepN_eq, Nat.shiftLeft_eq, ← pow_add]
  simp

/-- A bit reaches the top by shifts alone (R134). -/
theorem iterate_bitStepN_two_pow {w n : Nat} (p : Nat) {k : Nat} (h : n + k < w) :
    (bitStepN w p)^[k] (2 ^ n) = 2 ^ (n + k) := by
  induction k with
  | zero => rfl
  | succ k ih => rw [Function.iterate_succ_apply', ih (by omega), bitStepN_two_pow p (by omega), add_assoc]

/-- Entry 1 of the non-reflected table is the polynomial (R136). -/
theorem genTable_one {w : Nat} (p : Nat) (hw : 8 ≤ w) : genTable w p false 1 = p := by
  obtain ⟨n, rfl⟩ := Nat.exists_eq_add_of_le' hw
  calc genTable (n + 8) p false 1
      = (bitStepN (n + 8) p)^[7 + 1] (2 ^ n) := by simp [genTable, genN, Nat.one_shiftLeft]
    _ = bitStepN (n + 7 + 1) p (2 ^ (n + 7)) := by
      rw [Function.iterate_succ_apply', iterate_bitStepN_two_pow p (by omega)]
    _ = p := bitStepN_top (n + 7) p

/-- A bit above the lowest one is shifted down (R135). -/
theorem bitStepR_two_pow_succ (p n : Nat) : bitStepR p (2 ^ (n + 1)) = 2 ^ n := by
  rw [bitStepR_eq, Nat.shiftRight_eq_div_pow, Nat.testBit_two_pow, pow_succ]
  simp

/-- A bit reaches the lowest position by shifts alone (R135). -/
theorem iterate_bitStepR_two_pow (p k : Nat) : (bitStepR p)^[k] (2 ^ k) = 1 := by
  induction k with
  | zero => rfl
  | succ k ih => rw [Function.iterate_succ_apply, bitStepR_two_pow_succ, ih]

/-- Entry 0x80 of the reflected table is the polynomial (R136). -/
theorem genTable_top (w p : Nat) : genTable w p true 0x80 = p := by
  calc genTable w p true 0x80
      = (bitStepR p)^[7 + 1] (2 ^ 7) := by simp [genTable, genR]
    _ = bitStepR p 1 := by rw [Function.iterate_succ_apply', iterate_bitStepR_two_pow]
    _ = p := by simp [bitStepR_eq]

/-! ## The polynomial 0 -/

/-- Without a polynomial the non-reflected steps only shift (R134). -/
theorem iterate_bitStepN_zero {w r : Nat} (hr : r < 2 ^ w) (k : Nat) :
    (bitStepN w 0)^[k] r = (r <<< k) % 2 ^ w := by
  induction k with
  | zero => exact (Nat.mod_eq_of_lt hr).symm
  | succ k ih =>
    rw [Function.iterate_succ_apply', ih, bitStepN_eq, ite_self, Nat.xor_zero]
    simp [Nat.shiftLeft_eq, pow_succ, ← mul_assoc]

/-- Without a polynomial the reflected steps only shift (R135). -/
theorem iterate_bitStepR_zero (r k : Nat) : (bitStepR 0)^[k] r = r >>> k := by
  induction k with
  | zero => rfl
  | succ k ih => rw [Function.iterate_succ_apply', ih, bitStepR_eq, ite_self, Nat.xor_zero, Nat.shiftRight_add]

/-- The table of the polynomial 0 is 0: eight shifts move every bit of the byte out (R136). -/
theorem genTable_zero_poly {w : Nat} (ri : Bool) {b : Nat} (hw : 8 ≤ w) (hb : b < 256) : genTable w 0 ri b = 0 := by
  cases ri
  · have hshift : b <<< (w - 8) <<< 8 = b <<< w := by rw [← Nat.shiftLeft_add, Nat.sub_add_cancel hw]
    calc genTable w 0 false b
        = (b <<< (w - 8) <<< 8) % 2 ^ w := iterate_bitStepN_zero (shiftLeft_byte_lt hw hb) 8
      _ = 0 := by rw [hshift, Nat.shiftLeft_eq, Nat.mul_mod_left]
  · exact (iterate_bitStepR_zero b 8).trans (Nat.shiftRight_eq_zero b 8 hb)

/-! ## The table a CONFIGURE installs -/

/-- A built table depends on W, P' and RI alone (R136). -/
theorem buildTable_congr {v v' : Variant} (hw : v.width = v'.width) (hp : v.poly = v'.poly)
    (hr : v.reflectIn = v'.reflectIn) : buildTable v = buildTable v' := by
  rw [buildTable, hw, hp, hr, ← buildTable]

/-- CONFIGURE's completion builds the table of the configuration it installs (R137). -/
theorem table_of_exec_configure {s t : State} (hp : InProgress s .configure) (hl : s.latch.cfg.numbers.Legal 64)
    (h : exec .configure s = .next t) : t.table = buildTable s.latch.cfg.stored.numbers := by
  obtain rfl := Host.Outcome.next.inj ((exec_inProgress hp).symm.trans h)
  rw [numbers_stored hl le_rfl]
  rfl

/-- Settles O52: the laws of an entry are those of the bit steps, and two CONFIGUREs build their tables from the
stored W, P' and RI. -/
theorem tableLaws : Obligations.TableLaws := by
  refine ⟨fun w p ri hw hp => ⟨fun b => genTable_lt ri hw hp, genTable_zero w p ri,
    fun a b _ _ => genTable_xor w p ri a b, genTable_one p hw, genTable_top w p, ?_⟩, ?_⟩
  · rintro rfl b hb
    exact genTable_zero_poly ri hw hb
  · intro s s' t t' hs hs' hwidth hpoly hreflect hl hl' h h'
    rw [table_of_exec_configure hs hl h, table_of_exec_configure hs' hl' h']
    exact buildTable_congr (congrArg BitVec.toNat hwidth) (congrArg BitVec.toNat hpoly) hreflect

end Sys2Proof.Machine
end

section
/-! CONFIGURE: its checks, its acceptance and its completion (R130 to R139). -/

namespace Sys2Proof.Machine

/-- Settles O45: of the four kinds of step CONFIGURE's completion alone writes them. -/
theorem onlyConfigureChangesTheActiveConfiguration : Obligations.OnlyConfigureChangesTheActiveConfiguration :=
  fun _ _ => step_active

/-! ## The acceptance -/

/-- With BUSY = 0 and ERROR = 0 a command's checks decide between the error path and the latch (R101, R204). -/
theorem exec_of_noError {s : State} (i : Instr) (hb : s.status.busy = false) (he : s.status.error = false) :
    exec i s = .next ((commandChecks i s).elim (beginBusy (acceptanceEffects i (latchCommand i s)))
      fun cause => raiseError cause s) := by
  cases hc : commandChecks i s with
  | none => exact exec_of_passing hb he hc
  | some cause => exact exec_of_failing hb he hc

/-- The checks of CONFIGURE in their order (R130, R132, R205). -/
theorem configureChecks_eq (s : State) :
    configureChecks s =
      if s.status.isOpen = true then some .sequence
      else if s.cfg.width.toNat < 8 ∨ s.cfg.width.toNat > s.params.wmax then some .invalidWidth
      else if s.cfg.poly.toNat ≥ 2 ^ s.cfg.width.toNat then some .invalidPoly
      else if s.cfg.init.toNat ≥ 2 ^ s.cfg.width.toNat then some .invalidInit
      else if s.cfg.xorout.toNat ≥ 2 ^ s.cfg.width.toNat then some .invalidXorout else none := by
  simp [configureChecks, validate, firstFailing, CrcConfig.numbers]

/-- Settles O26: the checks are taken in their order, and when none fails the acceptance writes the latch, the snapshot
and STATUS. -/
theorem configureChecksThenSnapshots : Obligations.ConfigureChecksThenSnapshots := by
  refine ⟨decode_eq_command_iff.mpr ⟨rfl, rfl⟩, fun s hb he => ?_⟩
  have haccepted : beginBusy (acceptanceEffects .configure (latchCommand .configure s)) =
      { s with
        latch := { s.latch with op := 0x01, arg := 0, cfg := s.cfg }
        status := { s.status with configured := false, resultValid := false, busy := true } } := by
    rw [latchCommand_eq]
    rfl
  rw [exec_of_noError .configure hb he, haccepted, commandChecks, configureChecks_eq]
  split_ifs <;> rfl

/-! ## The completion -/

/-- A variant whose input is reflected is stored with its polynomial and init reversed (R133). -/
theorem normalise_of_reflectIn {v : Variant} (h : v.reflectIn = true) :
    normalise v = { v with poly := reversedBits v.poly v.width, init := reversedBits v.init v.width } := if_pos h

/-- Any other variant is stored as it is supplied (R133). -/
theorem normalise_of_not_reflectIn {v : Variant} (h : v.reflectIn = false) : normalise v = v :=
  if_neg (by simp [h])

@[simp] theorem normalise_width (v : Variant) : (normalise v).width = v.width := by
  cases h : v.reflectIn
  · rw [normalise_of_not_reflectIn h]
  · rw [normalise_of_reflectIn h]

@[simp] theorem normalise_reflectIn (v : Variant) : (normalise v).reflectIn = v.reflectIn := by
  cases h : v.reflectIn
  · rw [normalise_of_not_reflectIn h, h]
  · rw [normalise_of_reflectIn h, ← h]

/-- Settles O27: the stored polynomial and init are the normalised ones, and the table is built from them. -/
theorem configureInstallsTheStoredConfiguration : Obligations.ConfigureInstallsTheStoredConfiguration := by
  intro s hp
  refine ⟨(normalise s.latch.cfg.numbers).poly, (normalise s.latch.cfg.numbers).init,
    buildTable (normalise s.latch.cfg.numbers), fun h => ?_, fun h => ?_, fun b hb => ?_, exec_inProgress hp⟩
  · rw [normalise_of_reflectIn (v := s.latch.cfg.numbers) h]
    exact ⟨rfl, rfl⟩
  · rw [normalise_of_not_reflectIn (v := s.latch.cfg.numbers) h]
    exact ⟨rfl, rfl⟩
  · rw [tableEntry_buildTable _ hb, normalise_width, normalise_reflectIn]
    rfl

/-! ## A CONFIGURE that fails -/

/-- CLEAR_ERR is accepted whatever ERROR is (R181, R206). -/
theorem exec_clearErr_idle {s : State} (hb : s.status.busy = false) :
    exec .clearErr s = .next (beginBusy (latchCommand .clearErr s)) := by
  simp [exec_idle _ hb, acceptCommand, commandChecks, acceptanceEffects, noEffect]

/-- An accepted CLEAR_ERR is in progress, and completes (R103, R181). -/
theorem exec_clearErr_accepted (s : State) :
    exec .clearErr (beginBusy (latchCommand .clearErr s)) =
      .next (endBusy (clearError (beginBusy (latchCommand .clearErr s)))) :=
  exec_inProgress ⟨rfl, latchedWord_latchCommand .clearErr s⟩

/-- Settles O28: the error path writes STATUS alone, and neither step of CLEAR_ERR writes a configuration. -/
theorem failedConfigureKeepsTheOldConfiguration : Obligations.FailedConfigureKeepsTheOldConfiguration := by
  intro s hb he hc
  obtain ⟨cause, hc⟩ := Option.ne_none_iff_exists'.mp hc
  exact ⟨raiseError cause s, exec_of_failing (i := .configure) hb he hc, rfl, rfl, rfl, rfl, rfl, rfl, rfl, rfl,
    _, exec_clearErr_idle hb, _, exec_clearErr_accepted _, rfl, rfl, rfl, rfl, rfl⟩

end Sys2Proof.Machine
end

section
/-! The table-driven digest against the bit-by-bit division (R164), and the laws of reflection (R165, R166). -/

namespace Sys2Proof.Machine

/-! ## Eight bit steps are one table step -/

/-- Reflected steps over cleared low bits only shift them out (R135). -/
theorem iterate_bitStepR_shiftLeft (p x k : Nat) : (bitStepR p)^[k] (x <<< k) = x := by
  induction k with
  | zero => rfl
  | succ k ih =>
    have hstep : bitStepR p (x <<< (k + 1)) = x <<< k := by
      simp [bitStepR_eq, Nat.shiftLeft_succ, Nat.shiftRight_eq_div_pow]
    rw [Function.iterate_succ_apply, hstep, ih]

/-- Non-reflected steps that move no bit to position W only shift (R134). -/
theorem iterate_bitStepN_of_lt {w x : Nat} (p : Nat) {k : Nat} (h : x <<< k < 2 ^ w) :
    (bitStepN w p)^[k] x = x <<< k := by
  induction k with
  | zero => rfl
  | succ k ih =>
    have hdouble : x <<< (k + 1) = x <<< k <<< 1 := Nat.shiftLeft_add x k 1
    have htop : x <<< k < 2 ^ (w - 1) := by
      rw [hdouble, Nat.shiftLeft_eq _ 1] at h
      cases w with
      | zero => simpa using h
      | succ n => rw [Nat.add_sub_cancel]; omega
    have hlt : x <<< k < 2 ^ w := htop.trans_le (Nat.pow_le_pow_right (by decide) (Nat.sub_le w 1))
    rw [Function.iterate_succ_apply', ih hlt, bitStepN_eq, Nat.testBit_lt_two_pow htop, hdouble,
      Nat.mod_eq_of_lt (hdouble ▸ h)]
    simp

/-- A number is its upper and its lower bits. -/
theorem shiftLeft_shiftRight_xor_mod (x n : Nat) : ((x >>> n) <<< n) ^^^ (x % 2 ^ n) = x := by
  refine Nat.eq_of_testBit_eq fun j => ?_
  rw [Nat.testBit_xor, Nat.testBit_shiftLeft, Nat.testBit_shiftRight, Nat.testBit_mod_two_pow]
  by_cases hj : n ≤ j
  · simp [hj, not_lt.mpr hj]
  · simp [hj, not_le.mp hj]

/-- A reflected table step is the division of one byte: the upper bits are shifted down, and the table holds what the
low byte becomes (R151, R164). -/
theorem stepR_eq_bitwiseByteR (w p crc : Nat) {b : Nat} (hb : b < 256) :
    stepR (genTable w p true) crc b = bitwiseByteR p crc b := by
  have hupper : (crc ^^^ b) >>> 8 = crc >>> 8 := by
    rw [Nat.shiftRight_xor_distrib, Nat.shiftRight_eq_zero b 8 hb, Nat.xor_zero]
  have hindex : (crc ^^^ b) &&& 0xFF = (crc ^^^ b) % 2 ^ 8 := Nat.and_two_pow_sub_one_eq_mod _ 8
  calc stepR (genTable w p true) crc b
      = (crc ^^^ b) >>> 8 ^^^ (bitStepR p)^[8] ((crc ^^^ b) % 2 ^ 8) := by rw [hupper, ← hindex]; rfl
    _ = (bitStepR p)^[8] (((crc ^^^ b) >>> 8) <<< 8) ^^^ (bitStepR p)^[8] ((crc ^^^ b) % 2 ^ 8) := by
      rw [iterate_bitStepR_shiftLeft]
    _ = (bitStepR p)^[8] (((crc ^^^ b) >>> 8) <<< 8 ^^^ (crc ^^^ b) % 2 ^ 8) :=
      ((bitStepR_xor p).iterate 8 _ _).symm
    _ = bitwiseByteR p crc b := by rw [shiftLeft_shiftRight_xor_mod]; rfl

/-- A non-reflected table step is the division of one byte: the lower bits are shifted up, and the table holds what
the upper byte becomes (R150, R164). -/
theorem stepN_eq_bitwiseByteN {w : Nat} (p crc b : Nat) (hw : 8 ≤ w) :
    stepN w (genTable w p false) crc b = bitwiseByteN w p crc b := by
  obtain ⟨n, rfl⟩ := Nat.exists_eq_add_of_le' hw
  have hlower : crc <<< 8 % 2 ^ (n + 8) = (crc % 2 ^ n) <<< 8 := by
    rw [Nat.shiftLeft_eq, Nat.shiftLeft_eq, pow_add, Nat.mul_mod_mul_right]
  have hfits : (crc % 2 ^ n) <<< 8 < 2 ^ (n + 8) := hlower ▸ Nat.mod_lt _ (by positivity)
  have hsplit : (crc % 2 ^ n) ^^^ (crc >>> n ^^^ b) <<< n = crc ^^^ b <<< n := by
    rw [Nat.shiftLeft_xor_distrib, ← Nat.xor_assoc, Nat.xor_comm (crc % 2 ^ n), shiftLeft_shiftRight_xor_mod]
  calc stepN (n + 8) (genTable (n + 8) p false) crc b
      = (crc % 2 ^ n) <<< 8 ^^^ (bitStepN (n + 8) p)^[8] ((crc >>> n ^^^ b) <<< n) := by rw [← hlower]; rfl
    _ = (bitStepN (n + 8) p)^[8] (crc % 2 ^ n) ^^^ (bitStepN (n + 8) p)^[8] ((crc >>> n ^^^ b) <<< n) := by
      rw [iterate_bitStepN_of_lt p hfits]
    _ = (bitStepN (n + 8) p)^[8] (crc % 2 ^ n ^^^ (crc >>> n ^^^ b) <<< n) :=
      ((bitStepN_xor (n + 8) p).iterate 8 _ _).symm
    _ = bitwiseByteN (n + 8) p crc b := by rw [hsplit]; rfl

/-! ## The accumulated message -/

/-- What the working register holds after the bytes of m, under a variant as a caller supplies it (R154). -/
def accumulated (v : Variant) (m : List Nat) : Nat :=
  m.foldl (byteStep (normalise v) (genTable (normalise v).width (normalise v).poly (normalise v).reflectIn))
    (normalise v).init

/-- The digest finalises the accumulated message; normalisation keeps all that R153 reads. -/
theorem digest_eq (v : Variant) (m : List Nat) : digest v m = finalize v (accumulated v m) := by
  cases h : v.reflectIn
  · rw [digest, accumulated, normalise_of_not_reflectIn h]
    rfl
  · rw [digest, accumulated, normalise_of_reflectIn h]
    rfl

/-- The accumulated message is a value of W bits (R163). -/
theorem accumulated_lt {wmax : Nat} {v : Variant} {m : List Nat} (hv : v.Legal wmax) (hm : ∀ b ∈ m, b < 256) :
    accumulated v m < 2 ^ v.width := by
  obtain ⟨h8, -, hp, hi, -⟩ := hv.normalise
  rw [← normalise_width v]
  exact foldl_byteStep_lt h8 (fun _ hb => genTable_lt _ h8 hp hb) hm hi

/-- The reflected branch accumulates by bit-by-bit division (R164). -/
theorem accumulated_of_reflectIn {v : Variant} {m : List Nat} (h : v.reflectIn = true) (hm : ∀ b ∈ m, b < 256) :
    accumulated v m =
      m.foldl (bitwiseByteR (reversedBits v.poly v.width)) (reversedBits v.init v.width) := by
  rw [accumulated, normalise_of_reflectIn h]
  refine List.foldl_ext _ _ _ fun crc b hb => ?_
  rw [byteStep, if_pos h, h]
  exact stepR_eq_bitwiseByteR _ _ crc (hm b hb)

/-- The non-reflected branch accumulates by bit-by-bit division (R164). -/
theorem accumulated_of_not_reflectIn {v : Variant} (m : List Nat) (h : v.reflectIn = false) (hw : 8 ≤ v.width) :
    accumulated v m = m.foldl (bitwiseByteN v.width v.poly) v.init := by
  rw [accumulated, normalise_of_not_reflectIn h]
  refine List.foldl_ext _ _ _ fun crc b _ => ?_
  rw [byteStep, if_neg (by simp [h]), h]
  exact stepN_eq_bitwiseByteN v.poly crc b hw

/-- Settles O55: by linearity each table step is eight bit steps, so both accumulate the same value. -/
theorem tableDrivenDigestIsBitwiseDivision : Obligations.TableDrivenDigestIsBitwiseDivision := by
  intro wmax v m hv hm
  obtain ⟨h8, -⟩ := hv
  rw [digest_eq]
  cases h : v.reflectIn
  · simp only [bitwise, finalize, h, accumulated_of_not_reflectIn m h h8, Bool.false_eq_true, if_false]
  · simp only [bitwise, finalize, h, accumulated_of_reflectIn h hm, if_true]

/-! ## Bounds -/

/-- FINAL and CHECK leave a value of act_width bits in RESULT (R163). -/
theorem result_lt_of_completes {s t : State} (hinv : BlockInv s) (h : step s = .next t)
    (hc : Completes s .final ∨ Completes s .check) : t.result.toNat < 2 ^ s.act.width.toNat := by
  obtain ⟨hfinal, hcheck, -⟩ := step_result h
  rcases hc with hc | hc
  · obtain ⟨-, hconf, hopen⟩ := hinv.ready hc
    obtain ⟨-, hw, -, -, hx⟩ := hinv.active hconf
    rw [hfinal hc]
    exact fits_toValue (finalize_lt (v := s.act.numbers) hx (hinv.openCrc hopen)) le_rfl (hw.trans hinv.wmax_le)
  · obtain ⟨-, hconf, -⟩ := hinv.ready hc
    obtain ⟨-, hw, -, -, -⟩ := hinv.active hconf
    rw [hcheck hc]
    exact fits_toValue (hinv.calculate_lt hconf checkMessage_lt) le_rfl (hw.trans hinv.wmax_le)

/-- Settles O54: every operation of the engine keeps W bits, and the invariant gives the bound of crc before FINAL. -/
theorem everyIntermediateValueFitsTheWidth : Obligations.EveryIntermediateValueFitsTheWidth := by
  refine ⟨fun wmax v m hv hm => ?_, fun s t hinv h hc => result_lt_of_completes hinv h hc⟩
  have ⟨h8, _, hp, hi, hx⟩ := hv
  obtain ⟨-, -, hpoly, hinit, -⟩ := hv.normalise
  rw [normalise_width] at hpoly hinit
  refine ⟨fun b k hb => ⟨iterate_bitStepN_lt hp (shiftLeft_byte_lt h8 hb) k,
      iterate_bitStepR_lt hp (byte_lt_two_pow h8 hb) k⟩,
    fun k => foldl_byteStep_lt h8 (fun _ => genTable_lt _ h8 hp) (fun b hb => hm b (List.mem_of_mem_take hb)) hi,
    fun crc b hc hb => ⟨stepN_index_lt h8 hc hb, stepR_index_lt crc b, finalize_lt hx hc⟩,
    hpoly, hinit, ?_⟩
  rw [digest_eq]
  exact finalize_lt hx (accumulated_lt hv hm)

/-! ## Reflection of the output -/

/-- Bit reversal is linear over XOR (R121). -/
theorem reversedBits_xor (a b n : Nat) : reversedBits (a ^^^ b) n = reversedBits a n ^^^ reversedBits b n := by
  refine Nat.eq_of_testBit_eq fun j => ?_
  simp only [testBit_reversedBits, Nat.testBit_xor, Bool.and_xor_distrib_left]

/-- Toggling reflectOut and reflecting xorout reverses the finalised value (R153, R165). -/
theorem finalize_toggleReflectOut (v : Variant) {crc : Nat} (hc : crc < 2 ^ v.width) :
    finalize { v with reflectOut := !v.reflectOut, xorout := reversedBits v.xorout v.width } crc =
      reversedBits (finalize v crc) v.width := by
  unfold finalize
  rw [reversedBits_xor, Bool.not_xor]
  cases v.reflectOut ^^ v.reflectIn
  · rfl
  · exact congrArg (· ^^^ reversedBits v.xorout v.width) (reversedBits_reversedBits hc).symm

/-- What is accumulated depends on W, P, I and RI alone (R154). -/
theorem accumulated_congr_output (v : Variant) (ro : Bool) (x : Nat) (m : List Nat) :
    accumulated { v with reflectOut := ro, xorout := x } m = accumulated v m := by
  obtain ⟨w, p, i, ri, ro', x'⟩ := v
  cases ri <;> rfl

/-- Settles O56: the accumulated message is the same, and its finalised value is reversed. -/
theorem outputReflectionLaw : Obligations.OutputReflectionLaw := by
  intro wmax v m hv hm
  rw [digest_eq, digest_eq, accumulated_congr_output, finalize_toggleReflectOut v (accumulated_lt hv hm)]

/-! ## Reflection of the input -/

/-- Reversal turns the truncated left shift into the right shift. -/
theorem reversedBits_shiftLeft_one_mod (r w : Nat) :
    reversedBits ((r <<< 1) % 2 ^ w) w = reversedBits r w >>> 1 := by
  refine Nat.eq_of_testBit_eq fun j => ?_
  rw [testBit_reversedBits, Nat.testBit_mod_two_pow, Nat.testBit_shiftLeft, Nat.testBit_shiftRight,
    testBit_reversedBits]
  by_cases hj : 1 + j < w
  · have hbit : w - 1 - j - 1 = w - 1 - (1 + j) := by omega
    simp [hbit, hj, show j < w by omega, show w - 1 - j < w by omega, show 1 ≤ w - 1 - j by omega]
  · simp [hj, show ¬ 1 ≤ w - 1 - j by omega]

/-- A bit step of the one branch is, on reversed values, a bit step of the other (R134, R135). -/
theorem bitStepR_reversedBits (w p : Nat) :
    Function.Semiconj (reversedBits · w) (bitStepN w p) (bitStepR (reversedBits p w)) := by
  intro r
  have hbit : (reversedBits r w).testBit 0 = (decide (0 < w) && r.testBit (w - 1)) := testBit_reversedBits r w 0
  simp only [bitStepN_eq, bitStepR_eq, reversedBits_xor, reversedBits_shiftLeft_one_mod, hbit]
  congr 1
  cases w with
  | zero => exact Nat.lt_one_iff.mp (reversedBits_lt _ 0)
  | succ n => cases r.testBit (n + 1 - 1) <;> simp

/-- A reversed byte in the top bits is, reversed, the byte in the low bits. -/
theorem reversedBits_shiftLeft_byte {w b : Nat} (hw : 8 ≤ w) (hb : b < 256) :
    reversedBits (reversedBits b 8 <<< (w - 8)) w = b := by
  refine Nat.eq_of_testBit_eq fun j => ?_
  rw [testBit_reversedBits, Nat.testBit_shiftLeft, testBit_reversedBits]
  by_cases hj : j < 8
  · have hback : 8 - 1 - (w - 1 - j - (w - 8)) = j := by omega
    simp [hback, show j < w by omega, show w - 8 ≤ w - 1 - j by omega, show w - 1 - j - (w - 8) < 8 by omega]
  · have hbit : b.testBit j = false :=
      Nat.testBit_lt_two_pow (hb.trans_le (Nat.pow_le_pow_right (n := 2) (by decide) (not_lt.mp hj)))
    rcases lt_or_ge j w with hjw | hjw
    · simp [hbit, show ¬ w - 8 ≤ w - 1 - j by omega]
    · simp [hbit, not_lt.mpr hjw]

/-- A byte divided in the reflected branch, and the reversed byte in the other (R164, R166). -/
theorem bitwiseByteR_reversedBits {w b : Nat} (p crc : Nat) (hw : 8 ≤ w) (hb : b < 256) :
    bitwiseByteR (reversedBits p w) (reversedBits crc w) b =
      reversedBits (bitwiseByteN w p crc (reversedBits b 8)) w := by
  calc bitwiseByteR (reversedBits p w) (reversedBits crc w) b
      = (bitStepR (reversedBits p w))^[8] (reversedBits (crc ^^^ reversedBits b 8 <<< (w - 8)) w) := by
        rw [reversedBits_xor, reversedBits_shiftLeft_byte hw hb]
        rfl
    _ = reversedBits (bitwiseByteN w p crc (reversedBits b 8)) w :=
        ((bitStepR_reversedBits w p).iterate_right 8 _).symm

/-- A message divided in the reflected branch, and its reversed bytes in the other (R166). -/
theorem foldl_bitwiseByteR_reversedBits {w : Nat} (p : Nat) (hw : 8 ≤ w) {m : List Nat} (hm : ∀ b ∈ m, b < 256)
    (crc : Nat) :
    m.foldl (bitwiseByteR (reversedBits p w)) (reversedBits crc w) =
      reversedBits ((m.map fun b => reversedBits b 8).foldl (bitwiseByteN w p) crc) w := by
  induction m generalizing crc with
  | nil => rfl
  | cons b m ih =>
    rw [List.foldl_cons, List.map_cons, List.foldl_cons, bitwiseByteR_reversedBits p crc hw (hm b List.mem_cons_self)]
    exact ih (fun x hx => hm x (List.mem_cons_of_mem _ hx)) _

/-- Bit-reversed bytes are bytes (R121). -/
theorem map_reversedBits_lt (m : List Nat) : ∀ b ∈ m.map fun b => reversedBits b 8, b < 256 :=
  List.forall_mem_map.mpr fun b _ => reversedBits_lt b 8

/-- The reflected branch accumulates the reversal of what the other accumulates from the reversed bytes (R166). -/
theorem accumulated_reflectIn {wmax : Nat} {v : Variant} {m : List Nat} (hv : v.Legal wmax)
    (hm : ∀ b ∈ m, b < 256) :
    accumulated { v with reflectIn := true } m =
      reversedBits (accumulated { v with reflectIn := false } (m.map fun b => reversedBits b 8)) v.width := by
  obtain ⟨h8, -⟩ := hv
  rw [accumulated_of_reflectIn rfl hm, accumulated_of_not_reflectIn (v := { v with reflectIn := false }) _ rfl h8]
  exact foldl_bitwiseByteR_reversedBits v.poly h8 hm v.init

/-- Finalisation reverses in exactly one of the two branches (R153). -/
theorem finalize_reflectIn (v : Variant) {crc : Nat} (hc : crc < 2 ^ v.width) :
    finalize { v with reflectIn := true } (reversedBits crc v.width) = finalize { v with reflectIn := false } crc := by
  unfold finalize
  cases v.reflectOut
  · exact congrArg (· ^^^ v.xorout) (reversedBits_reversedBits hc)
  · rfl

/-- Settles O57: reversal carries each bit step of the one branch to the other's, and finalisation undoes it. -/
theorem inputReflectionLaw : Obligations.InputReflectionLaw := by
  intro wmax v m hv hm
  have hlt : accumulated { v with reflectIn := false } (m.map fun b => reversedBits b 8) < 2 ^ v.width :=
    accumulated_lt hv (map_reversedBits_lt m)
  rw [digest_eq, digest_eq, accumulated_reflectIn hv hm, finalize_reflectIn v hlt]

end Sys2Proof.Machine
end

section
/-! The digest commands START, BYTE, FINAL and CHECK (R155 to R159), and the empty message (R161). -/

namespace Sys2Proof.Machine

/-! ## Acceptance -/

/-- The checks of START and CHECK in their order (R155, R159, R205). -/
theorem needsNoMessage_eq (s : State) :
    needsNoMessage s =
      if s.status.configured = false then some .notConfigured
      else if s.status.isOpen = true then some .sequence else none := by
  simp [needsNoMessage, firstFailing]

/-- The checks of FINAL in their order (R157, R205). -/
theorem needsMessage_eq (s : State) :
    needsMessage s =
      if s.status.configured = false then some .notConfigured
      else if s.status.isOpen = false then some .notOpen else none := by
  simp [needsMessage, firstFailing]

/-- The checks of BYTE in their order (R156, R205). -/
theorem byteChecks_eq (value : Nat) (s : State) :
    byteChecks value s =
      if s.status.configured = false then some .notConfigured
      else if s.status.isOpen = false then some .notOpen
      else if value > 0xFF then some .invalidMessage else none := by
  simp [byteChecks, firstFailing]

/-- A command without acceptance effects writes the latch and BUSY, or takes the error path (R101, R204). -/
theorem exec_of_noEffect {s : State} {i : Instr} (hi : acceptanceEffects i = noEffect) (hb : s.status.busy = false)
    (he : s.status.error = false) :
    exec i s = .next ((commandChecks i s).elim
      { s with
        latch := { s.latch with op := i.opcode, arg := i.argument }
        status := { s.status with busy := true } }
      fun cause => raiseError cause s) := by
  rw [exec_of_noError i hb he, hi, latchCommand_eq]
  rfl

/-! ## Completion -/

/-- Finalisation reverses exactly when the two reflections differ (R153). -/
theorem finalize_eq_ite (v : Variant) (crc : Nat) :
    finalize v crc = (if v.reflectOut ≠ v.reflectIn then reversedBits crc v.width else crc) ^^^ v.xorout := by
  simp [finalize]

/-! ## The commands -/

/-- Settles O29: the checks are taken in their order, and the completion opens the message. -/
theorem startOpensAMessage : Obligations.StartOpensAMessage := by
  refine ⟨decode_eq_command_iff.mpr ⟨rfl, rfl⟩, fun s hb he => ?_, fun s hp => exec_inProgress hp⟩
  rw [exec_of_noEffect (i := .start) rfl hb he, commandChecks, needsNoMessage_eq]
  split_ifs <;> rfl

/-- Settles O30: the word is the command's encoding, the checks are taken in their order, and VALUE is read back from
the latch for the byte step of the active configuration. -/
theorem byteStepsTheWorkingRegister : Obligations.ByteStepsTheWorkingRegister := by
  refine ⟨fun value hv => ?_, fun s value _ hb he => ?_, fun s value hv hp => ?_⟩
  · exact decode_eq_command_iff.mpr ⟨decide_eq_true hv, (joinFields_ofNat 0x03 hv).symm⟩
  · rw [exec_of_noEffect (i := .byte value) rfl hb he, commandChecks, byteChecks_eq]
    split_ifs <;> rfl
  · have hwf : (Instr.byte value).wellFormed = true := decide_eq_true (lt_of_le_of_lt hv (by decide))
    have hlatch : latchedByte s = value :=
      (latchedByte_latch (hp.decode_eq hwf)).trans (Nat.mod_eq_of_lt (Nat.lt_succ_of_le hv))
    rw [exec_inProgress hp, ← hlatch]
    rfl

/-- Settles O31: the checks are taken in their order, and the completion writes the finalised crc and closes the
message. -/
theorem finalWritesTheDigest : Obligations.FinalWritesTheDigest := by
  refine ⟨decode_eq_command_iff.mpr ⟨rfl, rfl⟩, fun s hb he => ?_, fun s hp => ?_⟩
  · rw [exec_of_noEffect (i := .final) rfl hb he, commandChecks, needsMessage_eq]
    split_ifs <;> rfl
  · have hdone : exec .final s =
        .next (endBusy (closeMessage (produceResult (finalize s.act.numbers s.crc.toNat) s))) := exec_inProgress hp
    rw [hdone, finalize_eq_ite]
    rfl

/-- Settles O32: the checks are taken in their order, and the completion accumulates the nine bytes apart from crc. -/
theorem checkWritesTheCheckValue : Obligations.CheckWritesTheCheckValue := by
  refine ⟨decode_eq_command_iff.mpr ⟨rfl, rfl⟩, fun s hb he => ?_, fun s hp => exec_inProgress hp⟩
  rw [exec_of_noEffect (i := .check) rfl hb he, commandChecks, needsNoMessage_eq]
  split_ifs <;> rfl

/-! ## The empty message -/

/-- Settles O53: the loop does not run, so init is finalised. -/
theorem emptyMessageDigest : Obligations.EmptyMessageDigest := by
  refine fun v table => ⟨fun h => ?_, fun h => ?_⟩
  · rw [calculate, List.foldl_nil, finalize_eq_ite, if_pos h]
  · rw [calculate, List.foldl_nil, finalize_eq_ite, if_neg (not_not.mpr h)]

end Sys2Proof.Machine
end

section
/-! NOP (R180) and CLEAR_ERR, the return from an error (R181, R207). -/

namespace Sys2Proof.Machine

/-! ## NOP -/

/-- While ERROR = 1 every command but CLEAR_ERR is discarded (R206). -/
theorem exec_of_discard {s : State} {i : Instr} (hb : s.status.busy = false) (he : s.status.error = true)
    (hi : i ≠ .clearErr) : exec i s = .next s := by
  rw [exec_idle i hb, acceptCommand, if_pos ⟨he, hi⟩]

/-- Settles O24: NOP has no check and no effect, so each of its two steps is the shared one alone. -/
theorem nopWritesNothingButBusy : Obligations.NopWritesNothingButBusy := by
  refine ⟨decode_eq_command_iff.mpr ⟨rfl, rfl⟩, fun s hb he => exec_of_noEffect (i := .nop) rfl hb he,
    fun s hp => exec_inProgress hp, fun s hb he => exec_of_discard hb he nofun, fun w hlo hhi => ?_⟩
  have hop : w.toNat >>> 24 = 0 := by omega
  have harg : w.toNat % 2 ^ 24 ≠ 0 := by omega
  exact (illegalWordsAndTheirAcceptance w).1.mpr (.inr (.inl ⟨.inl hop, harg⟩))

/-! ## CLEAR_ERR -/

/-- With no error recorded the return from an error changes nothing (R181). -/
theorem clearError_of_noError {s : State} (he : s.status.error = false) (hc : s.status.errCause = .noError) :
    clearError s = s := by
  rw [clearError, ← he, ← hc]

/-- A word with the opcode of CLEAR_ERR and an argument is illegal (R82, R86). -/
theorem exists_illegal_of_inexact_clearErr {w : Word} (hop : opField w = 0x07) (harg : argField w ≠ 0) :
    ∃ why, decode w = .illegal why := by
  rw [decode, hop]
  exact (exists_decodeZ_illegal_iff .clearErr _).mpr fun h => harg (BitVec.eq_of_toNat_eq h)

/-- Settles O25: the one exact word is accepted whatever ERROR is and its completion is the return from an error; any
other word of the opcode is an illegal one. -/
theorem clearErrClearsOnlyTheError : Obligations.ClearErrClearsOnlyTheError := by
  refine ⟨decode_eq_clearErr_iff.mpr rfl, fun s hb => ?_, fun s hp => exec_inProgress hp, fun s hp he hc => ?_,
    fun w hop harg => ?_⟩
  · rw [exec_clearErr_idle hb, latchCommand_eq]
    rfl
  · have hdone : exec .clearErr s = .next (endBusy (clearError s)) := exec_inProgress hp
    rw [hdone, clearError_of_noError he hc]
    rfl
  · have hill := exists_illegal_of_inexact_clearErr hop harg
    exact ⟨hill, fun s hb hi => (illegalWordsAndTheirAcceptance w).2 s hb hi hill⟩

end Sys2Proof.Machine
end

section
/-! The outcome of a CMD write: the discard, the error path, or the acceptance (R203 to R206). -/

namespace Sys2Proof.Machine

/-! ## The error path -/

/-- The step that raises an error is the error path around the finished write (R101, R204). -/
theorem step_raises {s : State} {cause : ErrorCause} (h : Raises s cause) :
    step s = .next (raiseError cause (finishAccess .written s)) := by
  obtain ⟨hb, he, w, hi, ⟨⟨why, hd⟩, rfl⟩ | ⟨i, hd, hc⟩⟩ := h
  · have hf : (finishAccess .written s).status.error = false := he
    rw [step_issue hb hi, acceptWord_illegal hd, hf]
    rfl
  · rw [stepRunsTheIssuedCommand s w i hb hi hd]
    exact exec_of_failing (s := finishAccess .written s) hb he ((commandChecks_finishAccess i _ s).trans hc)

/-- Nothing but an error sets ERROR (R37). -/
theorem exists_raises_of_error {s t : State} (h : step s = .next t) (hs : s.status.error = false)
    (ht : t.status.error = true) : ∃ cause, Raises s cause := by
  obtain ⟨-, hclear, hother⟩ := step_error h
  by_contra hr
  by_cases hk : Completes s .clearErr
  · exact Bool.false_ne_true ((hclear hk).1.symm.trans ht)
  · exact Bool.false_ne_true (hs.symm.trans ((hother hr hk).1.symm.trans ht))

/-- Settles O34: the error path writes its four fields around the finished write, and no other event sets ERROR. -/
theorem errorsWriteFourStatusFields : Obligations.ErrorsWriteFourStatusFields := by
  refine ⟨fun s cause => step_raises, fun s t h hs ht => ?_⟩
  obtain ⟨cause, hr⟩ := exists_raises_of_error h hs ht
  exact ⟨cause, hr.ne_noError, hr⟩

/-! ## The discard -/

/-- While ERROR = 1 the step of any word but CLEAR_ERR's only finishes the HOST's write (R206). -/
theorem step_discard {s : State} {w : Word} (hb : s.status.busy = false) (he : s.status.error = true)
    (hw : w ≠ 0x07000000) (hi : Issues s w) : step s = .next (finishAccess .written s) := by
  rw [step_issue hb hi, acceptWord, if_pos ⟨he, hw⟩]

/-- Settles O35: the word is discarded before it is decoded, and a command before its checks. -/
theorem everyOtherWordIsDiscardedWhileError : Obligations.EveryOtherWordIsDiscardedWhileError :=
  ⟨fun _ _ hb he hw hi => step_discard hb he hw hi, fun _ _ hb he hi => exec_of_discard hb he hi⟩

/-! ## The first outcome that applies -/

/-- The acceptance of a command leaves ERROR (R101). -/
@[simp] theorem accepted_status_error (i : Instr) (s : State) : (accepted i s).status.error = s.status.error := by
  cases i <;> rfl

/-- An acceptance puts its command in progress (R33, R101). -/
theorem inProgress_accepted (i : Instr) (s : State) : InProgress (accepted i s) i :=
  ⟨accepted_busy i s, latchedWord_accepted i s⟩

/-- A word that is not discarded and has no failing check is accepted (R101, R206). -/
theorem accepts_of_decode {s : State} {w : Word} {i : Instr} (hb : s.status.busy = false) (hi : Issues s w)
    (hd : decode w = .command i) (hn : s.status.error = false ∨ w = 0x07000000) (hc : commandChecks i s = none) :
    Accepts s i := by
  refine ⟨hb, hn.imp_right ?_, hc, w, hi, hd⟩
  rintro rfl
  exact Decoded.command.inj (hd.symm.trans (decode_eq_clearErr_iff.mpr rfl))

/-- Only with ERROR = 0 can a word that is not discarded be illegal or fail a check, since CLEAR_ERR does neither
(R181, R206). -/
theorem raises_of_decode {s : State} {w : Word} {cause : ErrorCause} (hb : s.status.busy = false) (hi : Issues s w)
    (hn : s.status.error = false ∨ w = 0x07000000)
    (hr : ((∃ why, decode w = .illegal why) ∧ cause = .illegalCommand) ∨
      ∃ i, decode w = .command i ∧ commandChecks i s = some cause) : Raises s cause := by
  refine ⟨hb, hn.resolve_right ?_, w, hi, hr⟩
  rintro rfl
  have hclear : decode 0x07000000 = .command .clearErr := decode_eq_clearErr_iff.mpr rfl
  obtain ⟨⟨why, hd⟩, -⟩ | ⟨i, hd, hc⟩ := hr
  · cases hclear.symm.trans hd
  · obtain rfl := Decoded.command.inj (hclear.symm.trans hd)
    cases hc

/-- Settles O36: a word that is not discarded is an error or an acceptance, by its decoding and the command's checks,
whose order is that of their lists. -/
theorem firstApplicableOutcomeIsTaken : Obligations.FirstApplicableOutcomeIsTaken := by
  refine ⟨fun s w hb hi => ?_, fun s value nbits => ⟨rfl, rfl, configureChecks_eq s, needsNoMessage_eq s,
    byteChecks_eq value s, needsMessage_eq s, needsNoMessage_eq s, reverseChecks_eq nbits s⟩⟩
  by_cases hdiscard : s.status.error = true ∧ w ≠ 0x07000000
  · exact ⟨_, step_discard hb hdiscard.1 hdiscard.2 hi, by rw [if_pos hdiscard]⟩
  · have hn : s.status.error = false ∨ w = 0x07000000 := by
      rwa [not_and_or, Bool.not_eq_true, not_not] at hdiscard
    simp only [if_neg hdiscard]
    cases hd : decode w with
    | illegal why => exact ⟨_, step_raises (raises_of_decode hb hi hn (.inl ⟨⟨why, hd⟩, rfl⟩)), rfl⟩
    | command i =>
      dsimp only
      cases hc : commandChecks i s with
      | none =>
        exact ⟨_, step_accepts (accepts_of_decode hb hi hd hn hc), inProgress_accepted i s, accepted_status_error i s⟩
      | some cause => exact ⟨_, step_raises (raises_of_decode hb hi hn (.inr ⟨i, hd, hc⟩)), rfl⟩

end Sys2Proof.Machine
end

section
/-! Register writes while a command is in progress (R238), and what reset leaves (R231, R232). -/

namespace Sys2Proof.Machine

/-! ## A register write and a completion commute -/

/-- No completion reads or writes the staging registers or OPERAND: a command works on its snapshot (R47, R103). -/
theorem completed_staging (i : Instr) (c : CrcConfig) (v : Value) (s : State) :
    completed i { s with cfg := c, operand := v } = { completed i s with cfg := c, operand := v } := by
  cases i <;> rfl

@[simp] theorem completed_cfg (i : Instr) (s : State) : (completed i s).cfg = s.cfg :=
  (congrArg State.cfg (completed_staging i s.cfg s.operand s) :)

@[simp] theorem completed_operand (i : Instr) (s : State) : (completed i s).operand = s.operand :=
  (congrArg State.operand (completed_staging i s.cfg s.operand s) :)

/-- A register write stores in the staging registers and OPERAND alone, and what it stores there is settled by their
old values and WMAX (R24 to R30). -/
theorem writeReg_congr {s t : State} (r : Reg) (d : Word) (hp : t.params = s.params) (hc : t.cfg = s.cfg)
    (ho : t.operand = s.operand) :
    writeReg r d t = { t with cfg := (writeReg r d s).cfg, operand := (writeReg r d s).operand } := by
  cases s
  cases t
  subst hp hc ho
  cases r <;> rfl

/-- A completion after a register write is the register write after the completion (R238). -/
theorem completed_writeReg (i : Instr) (r : Reg) (d : Word) (s : State) :
    completed i (writeReg r d s) = writeReg r d (completed i s) :=
  calc completed i (writeReg r d s)
    _ = completed i { s with cfg := (writeReg r d s).cfg, operand := (writeReg r d s).operand } :=
      congrArg (completed i) (writeReg_congr r d rfl rfl rfl)
    _ = { completed i s with cfg := (writeReg r d s).cfg, operand := (writeReg r d s).operand } :=
      completed_staging i _ _ s
    _ = writeReg r d (completed i s) :=
      (writeReg_congr r d (completed_params i s) (completed_cfg i s) (completed_operand i s)).symm

/-- A register write leaves the command in progress (R238). -/
theorem inProgress_writeReg {s : State} {i : Instr} (h : InProgress s i) (r : Reg) (d : Word) :
    InProgress (writeReg r d s) i := by
  obtain ⟨hb, hl⟩ := h
  refine ⟨by rwa [writeReg_status], ?_⟩
  rwa [latchedWord, writeReg_latch]

/-- Settles O47: the completion and the write commute, and the acceptance of CONFIGURE and REVERSE alone take a
snapshot. -/
theorem stagingWritesDoNotAffectTheCommandInProgress : Obligations.StagingWritesDoNotAffectTheCommandInProgress := by
  refine ⟨fun s t i r d hp h => ?_, fun s off d h ha hrw _ hacc => ?_, fun s t ha h => ?_, fun s t nbits ha h => ?_⟩
  · have ht : completed i s = t := Host.Outcome.next.inj ((exec_inProgress hp).symm.trans h)
    rw [← ht, ← completed_writeReg]
    exact exec_inProgress (inProgress_writeReg hp r d)
  · have hn : regAt off ≠ .cmd := by
      intro hcmd
      rw [hcmd] at hrw
      cases hrw
    obtain ⟨t, hstep, -, -, hblock⟩ := step_write h ha hn hacc
    exact ⟨t, hstep, hblock⟩
  · obtain ⟨-, hcfg, -⟩ := (latchIsWrittenOnlyByAcceptance s t h).2 .configure ha
    exact hcfg
  · obtain ⟨-, -, hoperand, -⟩ := (latchIsWrittenOnlyByAcceptance s t h).2 (.reverse nbits) ha
    exact hoperand ⟨nbits, rfl⟩

/-! ## Reset -/

/-- Settles O48: reset of any state and the machine's own reset are both the state after reset for some parameters. -/
theorem resetLeavesTheBlockIdle : Obligations.ResetLeavesTheBlockIdle := by
  refine ⟨fun s t ht => ?_, fun _ => rfl⟩
  obtain ⟨p, rfl⟩ : ∃ p, t = State.afterReset p := by
    rcases ht with rfl | rfl
    · exact ⟨s.params, rfl⟩
    · exact ⟨Params.default, rfl⟩
  exact ⟨rfl, rfl, rfl, rfl, readReg_afterReset p⟩

end Sys2Proof.Machine
end
